-- ==== Sys2Proof/Word.lean ====
section
/-!
DEFINITION. The bit-vector types of the manual: symbols, payloads, device times.
-/

namespace Sys2Proof

/-- A symbol of a serial line, eight bits (R3). -/
abbrev Symbol := BitVec 8

/-- The value 0..63 carried by a value symbol (R4). -/
abbrev Value6 := BitVec 6

/-- A 12-bit data word or DATA payload (00, "Numbers and layouts"). -/
abbrev Data12 := BitVec 12

/-- A device time: 24 bits, wrapping (R1). -/
abbrev Time := BitVec 24

/-- The signed difference `a − b` of two device times modulo 2^24 (R2). -/
def Time.diff (a b : Time) : Int := (a - b).toInt

/-- "Device time passes t": the signed difference `now − t` is positive (R2). -/
def Time.passed (now t : Time) : Bool := decide (0 < Time.diff now t)

end Sys2Proof
end

