-- ==== Sys2Proof/Config.lean ====
section
/-!
DEFINITION. What the manual fixes as numbers, the names of the counters and alert flags, and the one free constant.
-/

namespace Sys2Proof

/-- FREE VALUE (log 10), of FREEZE alone. R77 and R96 let the freeze exit candidate be the first row that is a syllable row
AND unmarked; R78 makes it the first syllable row, absent when that row already carries the loft's mark.
The two differ only where the first syllable row is marked and a later one is not; there this constant decides. -/
opaque Config.freezeExitPassesMarkedRows : Bool

/-- Frame times after the last lock SYNC that lock is kept (R9). -/
def Config.lockLimit : Time := 48

/-- The lock count of a chest port's receive lock (R145). -/
def Config.chestLockCount : Nat := 4

/-- Words a valve queue holds (R148). -/
def Config.queueCapacity : Nat := 12

/-- The largest credit count (R146). -/
def Config.creditLimit : Nat := 6

/-- Where the anchor age stops (R44). -/
def Config.ageLimit : Int := 67108863

/-- Frame-time sixteenths per beat at one beat per minute: 3,840,000 (R46, R51). -/
def Config.tempoNumerator : Nat := 3840000

/-- Enough rounds for every own event that one frame time can hold in a state a run reaches: at most 800 releases,
200 list or table expiries, 200 freeze entries and a few dozen others (log 3). -/
def Config.settleRounds : Nat := 4096

/-- The 21 counters by number (R174). -/
abbrev Counter := Fin 21

def Counter.cuesPlaced : Counter := 0
def Counter.tagInUse : Counter := 1
def Counter.outOfOrder : Counter := 2
def Counter.noHymn : Counter := 3
def Counter.abortedOrMalformed : Counter := 4
def Counter.unexpectedData : Counter := 5
def Counter.damagedFrames : Counter := 6
def Counter.corruptedSyncs : Counter := 7
def Counter.lostOnsets : Counter := 8
def Counter.leadMatches : Counter := 9
def Counter.otherMatches : Counter := 10
def Counter.unmatchedOnsets : Counter := 11
def Counter.lateReleases : Counter := 12
def Counter.gateExpiries : Counter := 13
def Counter.keysOrCodes : Counter := 14
def Counter.creditOverflows : Counter := 15
def Counter.lockLosses : Counter := 16
def Counter.loadRefusals : Counter := 17
def Counter.readsRefused : Counter := 18
def Counter.divisionStalls : Counter := 19
def Counter.commandsRefused : Counter := 20

/-- The seven alert flags (R175). -/
inductive AlertFlag
  | lockLost | starved | stall | creditOverflow | gateExpired | tagInUse | outOfOrder
  deriving DecidableEq, Repr

/-- The bit of a flag in the alert mask and in READ target 9 (R175; 09, row layouts). -/
def AlertFlag.bit : AlertFlag → Nat
  | .lockLost => 0
  | .starved => 1
  | .stall => 2
  | .creditOverflow => 3
  | .gateExpired => 4
  | .tagInUse => 5
  | .outOfOrder => 6

end Sys2Proof
end

