-- ==== Sys2Proof/Syntax.lean ====
section
/-!
DEFINITION. The commands: one constructor per row of spec/opcode_table.json.
-/

namespace Sys2Proof

/-- An organ division, and with it its chest port (00, "Names"). -/
abbrev Division := Fin 4

/-- A Cue Table row number (R23). -/
abbrev RowNumber := Fin 200

/-- One of the 16 bit alignments of a serial line (R7). -/
abbrev Alignment := Fin 16

/-- The events of the device, each whole and indivisible (95_what_each_step_holds.md).
Nave frames carry what the frame carries; the hand-overs (CHORD_MESSAGE, LOAD, READ, HYMN, START, STOP, GATE, FLUSH,
CLEAR) carry nothing, because they act on the message the Nave Receiver has completed (log 5). -/
inductive Instr
  /-- Power-on, or RESET_n going low (R11). -/
  | powerReset
  /-- Power-on complete, or RESET_n high again, with the level of ADDR2..ADDR0 at that moment (R11, log 13). -/
  | resetRelease (straps : BitVec 3)
  /-- A SYNC frame completing on an alignment of the nave link (R7). -/
  | sync (alignment : Alignment)
  /-- The passing of the 48-frame-time limit of the frame lock (R9). -/
  | lockLoss
  /-- A DATA frame on the lock alignment (R14). -/
  | data (payload : Data12)
  /-- A K2 frame on the lock alignment, with its second symbol (R5, R15). -/
  | chordHeader (second : Symbol)
  /-- A COMMAND header: address × 8 + command code (R5). -/
  | commandHeader (value : Value6)
  | fill
  | corruptedSync
  | lostOnset
  | damagedFrame
  | chordMessage
  | load
  | read
  | hymn
  | start
  | stop
  | gate
  | flush
  | clear
  /-- An ONSET frame with its onset record (R62). -/
  | onset (record : Value6)
  | listenExpiry (row : RowNumber)
  | silenceFall
  | freezeEntry
  | starvationEntry
  | arm
  | gateSoundExpiry
  | gateDropExpiry
  | fermataExpiry
  | release (division : Division)
  | heldReleaseOffer (division : Division)
  | allOffEntry (division : Division)
  /-- The port's choice of the present slot's frame, by which the head word begins (R144, log 4). -/
  | wordLeaving (division : Division)
  /-- A K1 frame with value `n` on CHEST_RX (R145): CREDIT n for n = 1..6. -/
  | credit (division : Division) (n : Value6)
  | stall (division : Division)
  /-- A SYNC frame completing on an alignment of CHEST_RX (R145). -/
  | chestSync (division : Division) (alignment : Alignment)
  | receiveLockLoss (division : Division)
  /-- The return lane's choice of the present slot's frame when no response is due (R170, R171, log 4). -/
  | beacon
  /-- The sending of a response's last frame (R170). -/
  | responseComplete
  | deviceTimeAdvance
  deriving DecidableEq, Repr

end Sys2Proof
end

