-- ==== Sys2Proof/Decode.lean ====
section
/-!
DEFINITION. The symbol code, the frame kinds of the nave link and of the chest links, and decodeTableWord.
The table gives no row any bits, so no word spells a command; what the manual does give, the frames, is read here.
-/

namespace Sys2Proof

/-- The number of ones among the eight bits of a symbol (R3). -/
def Symbol.ones (s : Symbol) : Nat :=
  (s.getLsbD 0).toNat + (s.getLsbD 1).toNat + (s.getLsbD 2).toNat + (s.getLsbD 3).toNat
    + (s.getLsbD 4).toNat + (s.getLsbD 5).toNat + (s.getLsbD 6).toNat + (s.getLsbD 7).toNat

/-- K0..K5 in order (R3). -/
def controlSymbols : List Symbol := [0x0F, 0x33, 0x3C, 0xC3, 0xCC, 0xF0]

/-- The 64 value patterns, value 0 first (R4, its table row by row). -/
def valueSymbols : List Symbol :=
  [0x17, 0x1B, 0x1D, 0x1E, 0x27, 0x2B, 0x2D, 0x2E]
    ++ [0x35, 0x36, 0x39, 0x3A, 0x47, 0x4B, 0x4D, 0x4E]
    ++ [0x53, 0x55, 0x56, 0x59, 0x5A, 0x5C, 0x63, 0x65]
    ++ [0x66, 0x69, 0x6A, 0x6C, 0x71, 0x72, 0x74, 0x78]
    ++ [0x87, 0x8B, 0x8D, 0x8E, 0x93, 0x95, 0x96, 0x99]
    ++ [0x9A, 0x9C, 0xA3, 0xA5, 0xA6, 0xA9, 0xAA, 0xAC]
    ++ [0xB1, 0xB2, 0xB4, 0xB8, 0xC5, 0xC6, 0xC9, 0xCA]
    ++ [0xD1, 0xD2, 0xD4, 0xD8, 0xE1, 0xE2, 0xE4, 0xE8]

/-- The four classes of symbols (R3); a control symbol with its index, a value symbol with its value. -/
inductive SymbolClass
  | control (k : Nat)
  | value (v : Value6)
  | flipped
  | foreign
  deriving DecidableEq, Repr

/-- The class of a symbol by its number of ones (R3, R4). -/
def Symbol.classify (s : Symbol) : SymbolClass :=
  if s.ones = 4 then
    if s ∈ controlSymbols then .control (controlSymbols.idxOf s)
    else .value (BitVec.ofNat 6 (valueSymbols.idxOf s))
  else if s.ones = 3 ∨ s.ones = 5 then .flipped
  else .foreign

/-- Flipped and foreign symbols together are damaged (R3). -/
def SymbolClass.damaged : SymbolClass → Bool
  | .control _ => false
  | .value _ => false
  | .flipped => true
  | .foreign => true

/-- The symbol that carries a value (R4). -/
def valueSymbol (v : Value6) : Symbol := valueSymbols.getD v.toNat 0

/-- Control symbol K0..K5 (R3). -/
def controlSymbol (k : Nat) : Symbol := controlSymbols.getD k 0

/-- The nave frame that two symbols on the lock alignment make (R5); every combination the table does not list is a
damaged frame. `al` is the lock alignment, which a SYNC command names. -/
def naveFrame (al : Alignment) (first second : Symbol) : Instr :=
  match first.classify, second.classify with
  | .control 0, .control 5 => .sync al
  | .control 0, .flipped => .corruptedSync
  | .control 0, .foreign => .corruptedSync
  | .flipped, .control 5 => .corruptedSync
  | .foreign, .control 5 => .corruptedSync
  | .control 1, .value v => .onset v
  | .control 1, .flipped => .lostOnset
  | .control 1, .foreign => .lostOnset
  | .control 2, .value _ => .chordHeader second
  | .control 2, .flipped => .chordHeader second
  | .control 2, .foreign => .chordHeader second
  | .control 3, .value v => .commandHeader v
  | .control 4, .control 4 => .fill
  | .value a, .value b => .data (a ++ b)
  | _, _ => .damagedFrame

/-- The tag base a CHORD header's second symbol gives: 48 for a flipped one, 49 for a foreign one or a value 48..63.
`none`: a control symbol, with which a K2 frame is no CHORD header (R5, R15). -/
def tagBase (second : Symbol) : Option (Fin 50) :=
  match second.classify with
  | .value v => if h : v.toNat < 48 then some ⟨v.toNat, by omega⟩ else some 49
  | .flipped => some 48
  | .foreign => some 49
  | .control _ => none

/-- What a frame on the lock alignment of a CHEST_RX line makes of its two symbols: SYNC, CREDIT n, or nothing, FILL
and every discarded frame included (R145). -/
def chestFrame (d : Division) (al : Alignment) (first second : Symbol) : Option Instr :=
  match first.classify, second.classify with
  | .control 0, .control 5 => some (.chestSync d al)
  | .control 1, .value v => if 1 ≤ v.toNat ∧ v.toNat ≤ 6 then some (.credit d v) else none
  | _, _ => none

/-- A frame the device sends on a CHEST_TX line or on RET_OUT (R144, R170 to R172). -/
inductive OutFrame
  | sync
  | fill
  /-- A DATA frame with 12 bits. -/
  | data (w : Data12)
  /-- The first frame of a beacon: K4 and a value (R171). -/
  | beacon (v : Value6)
  /-- The K3 header of a response, whose value is the target (R172). -/
  | header (v : Value6)
  deriving DecidableEq, Repr

/-- The two symbols of a frame sent, first symbol first; a 12-bit word travels high six bits first (R4, R5, R144, R171). -/
def OutFrame.symbols : OutFrame → Symbol × Symbol
  | .sync => (controlSymbol 0, controlSymbol 5)
  | .fill => (controlSymbol 4, controlSymbol 4)
  | .data w => (valueSymbol (w.extractLsb' 6 6), valueSymbol (w.extractLsb' 0 6))
  | .beacon v => (controlSymbol 4, valueSymbol v)
  | .header v => (controlSymbol 3, valueSymbol v)

/-- The command a word spells by the table's bits: the table gives no row any bits, so none (log 21). -/
def decodeTableWord (_nbits _w : Nat) : Option Instr := none

end Sys2Proof
end

