-- ==== Sys2Proof/Machine/State.lean ====
section
/-!
DEFINITION. The state of the HF-36 as plain data, the reasons a step can stop, and the state after power reset.
-/

namespace Sys2Proof.Machine

/-! ### The Nave Receiver (01) -/

/-- The frame lock of a serial line: present alignment = LOCKED on it, absent = SEARCH (R7, R145). -/
structure FrameLock where
  aligned : Option Alignment
  /-- The SYNC count of each alignment. -/
  counts : Vector Nat 16
  /-- The time of the last SYNC on the lock alignment. -/
  lastSync : Time
  deriving DecidableEq, Repr

/-- The command codes 0..7 (R6). -/
inductive CommandCode
  | load | read | hymn | start | stop | gate | flush | clear
  deriving DecidableEq, Repr

/-- The header of a message: a CHORD with its tag base, or a COMMAND with its address and code (R12). -/
inductive Header
  | chord (base : Fin 50)
  | command (address : BitVec 3) (code : CommandCode)
  deriving DecidableEq, Repr

/-- The message in progress (R12). -/
structure Message where
  header : Header
  /-- Whether this part acts on the message (R16). -/
  acting : Bool
  /-- The DATA payloads taken so far, in arrival order. -/
  payloads : List Data12
  deriving DecidableEq, Repr

/-- The LOAD stream in progress (R12, R17); the index of the next word is the number of words staged. -/
structure LoadStream where
  acting : Bool
  table : BitVec 4
  nextRow : Nat
  staged : List Data12
  deriving DecidableEq, Repr

/-- The assembly state (R12). A complete LOAD message stands in `assembling` until the LOAD event opens its stream (log 5). -/
inductive Assembly
  | ready
  | assembling (m : Message)
  | streaming (l : LoadStream)
  deriving DecidableEq, Repr

/-- A complete acting message on its way to the block that owns it (R13, log 5). -/
inductive Handed
  | chord (base : Fin 50) (d1 d2 d3 d4 : Data12)
  | read (d1 : Data12)
  | hymn (d1 d2 : Data12)
  | start (d1 : Data12)
  | stop
  | gate
  | flush (d1 : Data12)
  | clear (d1 : Data12)
  deriving DecidableEq, Repr

/-! ### The Cue Table (02) -/

/-- The four voices of the hymn (00, "Names"). -/
inductive Voice
  | soprano | alto | tenor | bass
  deriving DecidableEq, Repr

/-- One value for each voice. -/
structure Voices (α : Type) where
  soprano : α
  alto : α
  tenor : α
  bass : α
  deriving DecidableEq, Repr

/-- The five states of a row (R25). -/
inductive RowState
  | empty | pending | gated | releasing | listen
  deriving DecidableEq, Repr

/-- The gate mode a row keeps (R23). -/
inductive GateMode
  | none | sound | drop
  deriving DecidableEq, Repr

/-- A row's origin, fixed by its number (R22). -/
inductive Origin
  | normal | flipped | foreign
  deriving DecidableEq, Repr

/-- One row of the Cue Table (R23). -/
structure CueRow where
  rowState : RowState
  position : Nat
  voices : Voices Value6
  regSet : BitVec 4
  syllable : Bool
  fermata : Bool
  gateMode : GateMode
  armed : Option Time
  released : Vector Bool 4
  eastMark : Bool
  westMark : Bool
  deriving DecidableEq, Repr

/-- A row after power reset (R26). -/
def CueRow.reset : CueRow where
  rowState := .empty
  position := 0
  voices := ⟨0, 0, 0, 0⟩
  regSet := 0
  syllable := false
  fermata := false
  gateMode := .none
  armed := none
  released := Vector.replicate 4 false
  eastMark := false
  westMark := false

/-! ### The Beat Follower (03) -/

/-- The two choir lofts (00, "Names"). -/
inductive Loft
  | east | west
  deriving DecidableEq, Repr

/-- The lead loft of a profile (R65; 09, row layouts). -/
inductive LeadLoft
  | east | west | either
  deriving DecidableEq, Repr

/-- The follower states (R48). -/
inductive Mode
  | idle | countIn | lead | follow | freeze | starved
  deriving DecidableEq, Repr

/-- The state before a freeze, LEAD or FOLLOW (R94). -/
inductive Running
  | lead | follow
  deriving DecidableEq, Repr

/-- The freeze record (R94). -/
structure FreezeRecord where
  position : Nat
  start : Time
  before : Running
  deriving DecidableEq, Repr

/-- A profile as the Beat Follower reads it, with Pmin and Pmax (R42, R46). -/
structure Profile where
  bpmMin : Nat
  bpmMax : Nat
  alpha : Nat
  beta : Nat
  leadLoft : LeadLoft
  k : Nat
  engage : Nat
  silence : Nat
  minStrength : Nat
  gate : Nat
  fermata : Nat
  starve : Nat
  pmin : Nat
  pmax : Nat
  deriving DecidableEq, Repr

/-- The Beat Follower's record (R42). -/
structure Follower where
  mode : Mode
  /-- Anchor time. -/
  ta : Time
  /-- Anchor position. -/
  ba : Nat
  /-- Anchor age (R44). -/
  age : Int
  /-- Period, sixteenths of a frame time per beat. -/
  period : Nat
  /-- Active profile. -/
  profile : Profile
  transposition : Int
  startingSet : BitVec 4
  /-- Previous update position. -/
  prevUpdate : Option Nat
  /-- Consecutive match count. -/
  matchCount : Nat
  /-- Last match time. -/
  lastMatch : Time
  /-- Last released position. -/
  lastReleased : Option Nat
  freeze : Option FreezeRecord
  /-- Last freeze position, −1 when none. -/
  lastFreeze : Int
  deriving DecidableEq, Repr

/-! ### The Registration Mapper (07) -/

/-- The octave of a holder (R127). -/
inductive Octave
  | unison | sub | super
  deriving DecidableEq, Repr

/-- One of the twelve ways a key can be held (R127). -/
structure Holder where
  voice : Voice
  octave : Octave
  deriving DecidableEq, Repr

/-- What the Mapper holds for one division (R125). A holder set is the list of its holders in a fixed order. -/
structure DivisionRecord where
  currentSet : Option (BitVec 4)
  /-- The Voice Register: silent, or the pitch code of each voice (R126). -/
  register : Voices (Option Value6)
  /-- The Key Map: the holder set of each key 0..72 (R129). -/
  keyMap : Vector (List Holder) 73
  deriving DecidableEq, Repr

/-- A division's record when silent, which is also its state after power reset (R125, R137). -/
def DivisionRecord.silent : DivisionRecord where
  currentSet := none
  register := ⟨none, none, none, none⟩
  keyMap := Vector.replicate 73 []

/-! ### Chest ports (08) -/

/-- One key event of a KEYS word (R143). -/
structure KeyEvent where
  on : Bool
  key : Fin 73
  deriving DecidableEq, Repr

/-- A valve word by kind (R143); `none` is a null slot. -/
inductive ValveWord
  | keys (e1 : KeyEvent) (e2 e3 : Option KeyEvent)
  /-- Rank flags 11..0. -/
  | stopA (ranks : Data12)
  /-- Rank flags 23..12. -/
  | stopB (ranks : Data12)
  | allOff
  deriving DecidableEq, Repr

/-- The four port states (R142). -/
inductive PortState
  | off | active | waiting | stalled
  deriving DecidableEq, Repr

/-- An output line: the frame chosen for the present slot, absent until the slot's choice is made, and the frame of the
slot before (R144, R170, log 4). -/
structure Line where
  now : Option OutFrame
  last : OutFrame
  deriving DecidableEq, Repr

/-- A line that carries FILL, before the present slot's choice (R142, R169). -/
def Line.idle : Line := { now := none, last := .fill }

/-- One chest port (R142). -/
structure Port where
  state : PortState
  /-- The valve queue, head first. -/
  queue : List ValveWord
  credits : Nat
  owedAllOff : Bool
  waitingSince : Option Time
  /-- The word in transmission: its second half. -/
  transmission : Option Data12
  /-- The receive lock on CHEST_RX. -/
  rx : FrameLock
  /-- An event of R112 has changed the port and the held release has not been offered since (log 6). -/
  offerDue : Bool
  /-- CHEST_TX. -/
  line : Line
  deriving DecidableEq, Repr

/-! ### The Table Store (09) -/

/-- The control table's row. -/
structure ControlRow where
  w0 : Data12
  w1 : Data12
  deriving DecidableEq, Repr

/-- A row of the division table. -/
structure DivisionRow where
  w0 : Data12
  w1 : Data12
  w2 : Data12
  deriving DecidableEq, Repr

/-- A row of the profile table. -/
structure ProfileRow where
  w0 : Data12
  w1 : Data12
  w2 : Data12
  w3 : Data12
  w4 : Data12
  deriving DecidableEq, Repr

/-- A row of the registration table. -/
structure RegistrationRow where
  w0 : Data12
  w1 : Data12
  w2 : Data12
  deriving DecidableEq, Repr

/-- The five tables (R158). A loft row is its one word. -/
structure Tables where
  control : ControlRow
  loft : Vector Data12 2
  division : Vector DivisionRow 4
  profile : Vector ProfileRow 8
  registration : Vector RegistrationRow 64
  deriving DecidableEq, Repr

/-- The default registration of a division, the same in every set (R158). -/
def RegistrationRow.default (d : Nat) : RegistrationRow :=
  match d with
  | 0 => ⟨124, 1, 0⟩
  | 3 => ⟨12, 1, 0⟩
  | _ => ⟨0, 1, 0⟩

/-- The default profile row (R158). -/
def ProfileRow.default : ProfileRow := ⟨40, 160, 1042, 860, 823⟩

/-- The tables after power reset (R158). -/
def Tables.reset : Tables where
  control := ⟨12, 127⟩
  loft := Vector.replicate 2 0
  division := Vector.replicate 4 ⟨2048, 0, 400⟩
  profile := Vector.replicate 8 ProfileRow.default
  registration := Vector.ofFn fun row => RegistrationRow.default (row.val % 4)

/-! ### The return lane (10) -/

/-- The response in the response buffer, with the count of the frames already sent. -/
structure Response where
  frames : List OutFrame
  sent : Nat
  deriving DecidableEq, Repr

/-! ### The whole device -/

/-- The state of one HF-36. -/
structure State where
  /-- RESET_n held low, or power-on not complete (R1, R11). -/
  resetHeld : Bool
  /-- Device time, "now" (R1). -/
  deviceTime : Time
  /-- The part address sampled from the straps (R11). -/
  partAddress : BitVec 3
  /-- The nave link's frame lock (R7 to R11). -/
  nave : FrameLock
  /-- The message or LOAD stream in progress (R12). -/
  assembly : Assembly
  /-- Complete acting messages not yet taken by their block, oldest first (R13, log 5). -/
  handed : List Handed
  /-- The Cue Table (R23). -/
  cues : Vector CueRow 200
  /-- The Onset Matcher's update marks (R69). -/
  updateMarks : Vector Bool 200
  /-- The Release Order List, head first (R35). -/
  rol : List RowNumber
  /-- The placement high mark, −1 when nothing is placed (R33). -/
  highMark : Int
  /-- The Beat Follower's record (R42). -/
  follower : Follower
  /-- The held release of each division (R104). -/
  held : Vector (Option RowNumber) 4
  /-- The Registration Mapper's record of each division (R125). -/
  divisions : Vector DivisionRecord 4
  /-- The chest ports (R142). -/
  ports : Vector Port 4
  /-- The Table Store (R158). -/
  tables : Tables
  /-- The response buffer (R169). -/
  response : Option Response
  /-- The beacon half in transmission (R169). -/
  beaconHalf : Option Data12
  /-- RET_OUT. -/
  returnLine : Line
  /-- Counters 0..20 (R174). -/
  counters : Vector (BitVec 12) 21
  /-- The alert flags, bit i as in the alert mask (R175). -/
  flags : BitVec 7
  /-- The commands waiting, first in first out (log 1). -/
  pending : List Instr
  deriving DecidableEq, Repr

/-- Reasons a step stops the machine: none. The manual names no event that stops the device, and every command has an
effect or leaves the state as it is (log 15). -/
inductive Fault
  deriving DecidableEq, Repr

/-- Reasons a command has no meaning in the model. -/
inductive Refusal
  /-- Raised by exec alone, for a command whose meaning is not written; no arm raises it. Safe: the model stops where the
  device goes on. -/
  | notModelled (mnemonic : String)
  deriving DecidableEq, Repr

/-- A frame lock after power reset: SEARCH, all counts 0 (R11, R142). The time of the last SYNC is the model's (log 8). -/
def FrameLock.reset : FrameLock where
  aligned := none
  counts := Vector.replicate 16 0
  lastSync := 0

/-- A chest port after power reset, its division enabled by the default table (R142). -/
def Port.reset : Port where
  state := .active
  queue := []
  credits := 0
  owedAllOff := true
  waitingSince := none
  transmission := none
  rx := FrameLock.reset
  offerDue := false
  line := Line.idle

/-- The active profile after power reset: default profile row 0 read field by field (R42, R158). -/
def Profile.reset : Profile where
  bpmMin := 40
  bpmMax := 160
  alpha := 8
  beta := 4
  leadLoft := .either
  k := 4
  engage := 2
  silence := 8
  minStrength := 0
  gate := 4
  fermata := 4
  starve := 8
  pmin := 24000
  pmax := 96000

/-- The Beat Follower after power reset (R42). -/
def Follower.reset : Follower where
  mode := .idle
  ta := 0
  ba := 0
  age := 0
  period := 64000
  profile := Profile.reset
  transposition := 0
  startingSet := 0
  prevUpdate := none
  matchCount := 0
  lastMatch := 0
  lastReleased := none
  freeze := none
  lastFreeze := -1

/-- The power-reset state, with RESET_n still low (R1, R11, R26, R42, R81, R104, R125, R142, R158, R169, log 9). -/
def State.reset : State where
  resetHeld := true
  deviceTime := 0
  partAddress := 0
  nave := FrameLock.reset
  assembly := .ready
  handed := []
  cues := Vector.replicate 200 CueRow.reset
  updateMarks := Vector.replicate 200 false
  rol := []
  highMark := -1
  follower := Follower.reset
  held := Vector.replicate 4 none
  divisions := Vector.replicate 4 DivisionRecord.silent
  ports := Vector.replicate 4 Port.reset
  tables := Tables.reset
  response := none
  beaconHalf := none
  returnLine := Line.idle
  counters := Vector.replicate 21 0
  flags := 0
  pending := []

end Sys2Proof.Machine
end

