-- ==== Sys2Proof/Machine/Flags.lean ====
section
/-!
DEFINITION. Counters, alert flags and ALERT_n (10, R174, R175).
-/

namespace Sys2Proof.Machine

/-- A 12-bit counter raised `n` times: it stops at 4095 (R174). -/
def saturatingAdd (c : BitVec 12) (n : Nat) : BitVec 12 := BitVec.ofNat 12 (min (c.toNat + n) 4095)

/-- Counter `c` rises by `n` (R174). -/
def State.raiseBy (s : State) (c : Counter) (n : Nat) : State :=
  { s with counters := s.counters.set c (saturatingAdd s.counters[c] n) }

/-- Counter `c` rises by one (R174). -/
def State.raise (s : State) (c : Counter) : State := s.raiseBy c 1

/-- Alert flag `f` is set, whether or not it already is (R175). -/
def State.setFlag (s : State) (f : AlertFlag) : State :=
  { s with flags := s.flags ||| BitVec.ofNat 7 (2 ^ f.bit) }

/-- Whether alert flag `f` is set (R175). -/
def State.flag (s : State) (f : AlertFlag) : Bool := s.flags.getLsbD f.bit

/-- The alert mask of the control table (09, row layouts). -/
def ControlRow.alertMask (r : ControlRow) : BitVec 7 := r.w1.extractLsb' 0 7

/-- ALERT_n is driven low while a flag is set whose mask bit is set; it is released while RESET_n is low (R169, R175). -/
def State.alertLow (s : State) : Bool :=
  !s.resetHeld && (s.flags &&& s.tables.control.alertMask != 0)

end Sys2Proof.Machine
end

