-- ==== Sys2Proof/Machine/Operands.lean ====
section
/-!
DEFINITION. The fields of every payload and of every table row, and the checks of the Table Store on a row (R160 to R166).
-/

namespace Sys2Proof.Machine

/-- Bits `lo + len − 1 .. lo` of a data word as a number. -/
def field (w : Data12) (lo len : Nat) : Nat := (w.extractLsb' lo len).toNat

/-- Bit `i` of a data word as a flag. -/
def bit (w : Data12) (i : Nat) : Bool := w.getLsbD i

/-! ### Headers (R5, R6) -/

/-- The command a code names (R6). -/
def CommandCode.ofBits (c : BitVec 3) : CommandCode :=
  match c.toNat with
  | 0 => .load
  | 1 => .read
  | 2 => .hymn
  | 3 => .start
  | 4 => .stop
  | 5 => .gate
  | 6 => .flush
  | _ => .clear

/-- The DATA frames a command expects after its header, before any LOAD stream (R6). -/
def CommandCode.expected : CommandCode → Nat
  | .load => 1
  | .read => 1
  | .hymn => 2
  | .start => 1
  | .stop => 0
  | .gate => 0
  | .flush => 1
  | .clear => 1

/-- The DATA frames a header expects (R6). -/
def Header.expected : Header → Nat
  | .chord _ => 4
  | .command _ code => code.expected

/-- The address of a COMMAND header's value: the value divided by 8 (R5). -/
def headerAddress (v : Value6) : BitVec 3 := v.extractLsb' 3 3

/-- The command code of a COMMAND header's value: the remainder by 8 (R5, R6). -/
def headerCode (v : Value6) : CommandCode := CommandCode.ofBits (v.extractLsb' 0 3)

/-- Whether a part strapped to `part` acts on a command (R16). -/
def actsOn (part address : BitVec 3) (code : CommandCode) : Bool :=
  if address = 7 then decide (code ≠ .read) else decide (address = part)

/-- The message a header and its payloads make for the block that owns it (R13). A LOAD is not handed on: it opens a stream (R17). -/
def Header.handed (h : Header) (payloads : List Data12) : Option Handed :=
  match h, payloads with
  | .chord base, [d1, d2, d3, d4] => some (.chord base d1 d2 d3 d4)
  | .command _ .read, [d1] => some (.read d1)
  | .command _ .hymn, [d1, d2] => some (.hymn d1 d2)
  | .command _ .start, [d1] => some (.start d1)
  | .command _ .stop, [] => some .stop
  | .command _ .gate, [] => some .gate
  | .command _ .flush, [d1] => some (.flush d1)
  | .command _ .clear, [d1] => some (.clear d1)
  | _, _ => none

/-! ### The chord message (R21) -/

/-- Whether the pattern of D2 sets sub-beat `sub` (R21): sub-beat 0 is the most significant bit. -/
def chordSets (d2 : Data12) (sub : Fin 4) : Bool := bit d2 (11 - sub.val)

/-- The sub-beat pattern of D2. -/
def chordPattern (d2 : Data12) : Nat := field d2 8 4

/-- The gate mode of D2; 3 is malformed. -/
def chordGate (d2 : Data12) : Option GateMode :=
  match field d2 6 2 with
  | 0 => some .none
  | 1 => some .sound
  | 2 => some .drop
  | _ => none

/-- The four voice codes of D3 and D4. -/
def chordVoices (d3 d4 : Data12) : Voices Value6 where
  soprano := d3.extractLsb' 6 6
  alto := d3.extractLsb' 0 6
  tenor := d4.extractLsb' 6 6
  bass := d4.extractLsb' 0 6

/-- The set sub-beats of a pattern in ascending order (R27). -/
def chordSubBeats (d2 : Data12) : List (Fin 4) := [0, 1, 2, 3].filter (chordSets d2)

/-- One value of four, by voice. -/
def Voices.get {α : Type} (v : Voices α) : Voice → α
  | .soprano => v.soprano
  | .alto => v.alto
  | .tenor => v.tenor
  | .bass => v.bass

/-- How many of the four codes are the invalid code 63 (R24). -/
def Voices.invalidCodes (v : Voices Value6) : Nat :=
  [v.soprano, v.alto, v.tenor, v.bass].countP (· = 63)

/-! ### The onset record (R62) -/

/-- Bit 5: the loft. -/
def onsetLoft (r : Value6) : Loft := if r.getLsbD 5 then .west else .east

/-- Bits 4..3: the strength. -/
def onsetStrength (r : Value6) : Nat := (r.extractLsb' 3 2).toNat

/-- Bits 2..0: the offset. -/
def onsetOffset (r : Value6) : Nat := (r.extractLsb' 0 3).toNat

/-! ### HYMN (R50) -/

def hymnProfile (d1 : Data12) : Fin 8 := (d1.extractLsb' 9 3).toFin

def hymnTranspositionCode (d1 : Data12) : Nat := field d1 5 4

def hymnStartingSet (d1 : Data12) : BitVec 4 := d1.extractLsb' 1 4

/-- Every field of a HYMN in its accepted range: transposition code 0..11, spare bit 0, tempo 30..200 (R50). -/
def hymnFieldsAccepted (d1 d2 : Data12) : Bool :=
  decide (hymnTranspositionCode d1 ≤ 11) && !bit d1 0 && decide (30 ≤ d2.toNat ∧ d2.toNat ≤ 200)

/-! ### Table rows (09, row layouts) -/

/-- Rows and words per row of a table; none for tables 5..15 (R17, R158). -/
def tableShape (table : BitVec 4) : Option (Nat × Nat) :=
  match table.toNat with
  | 0 => some (1, 2)
  | 1 => some (2, 1)
  | 2 => some (4, 3)
  | 3 => some (8, 5)
  | 4 => some (64, 3)
  | _ => none

/-- N_lock (R7, R160). -/
def ControlRow.lockCount (r : ControlRow) : Nat := field r.w0 0 6

def ControlRow.valid (r : ControlRow) : Bool :=
  decide (field r.w0 6 6 = 0) && decide (field r.w1 7 5 = 0)
    && decide (4 ≤ r.lockCount ∧ r.lockCount ≤ 60 ∧ r.lockCount % 2 = 0)

/-- A loft's delay (R63, R161). -/
def loftDelay (w : Data12) : Nat := field w 0 9

def loftValid (w : Data12) : Bool := decide (field w 9 3 = 0) && decide (loftDelay w ≤ 400)

def DivisionRow.enabled (r : DivisionRow) : Bool := bit r.w0 11

/-- Lead time (R105). -/
def DivisionRow.lead (r : DivisionRow) : Nat := field r.w0 0 11

def DivisionRow.compassLow (r : DivisionRow) : Nat := field r.w1 6 6

/-- Compass high: 72 less the compass top distance (R162). -/
def DivisionRow.compassHigh (r : DivisionRow) : Nat := 72 - field r.w1 0 6

def DivisionRow.stallLimit (r : DivisionRow) : Nat := r.w2.toNat

def DivisionRow.valid (r : DivisionRow) : Bool :=
  decide (r.lead ≤ 2000) && decide (r.compassLow ≤ r.compassHigh)
    && decide (40 ≤ r.stallLimit ∧ r.stallLimit ≤ 4000)

def ProfileRow.bpmMin (r : ProfileRow) : Nat := field r.w0 0 8
def ProfileRow.bpmMax (r : ProfileRow) : Nat := field r.w1 0 8
def ProfileRow.alpha (r : ProfileRow) : Nat := field r.w2 7 5
def ProfileRow.beta (r : ProfileRow) : Nat := field r.w2 2 5

/-- The lead loft; 3 is refused (R164). -/
def ProfileRow.leadLoft (r : ProfileRow) : Option LeadLoft :=
  match field r.w2 0 2 with
  | 0 => some .east
  | 1 => some .west
  | 2 => some .either
  | _ => none

def ProfileRow.valid (r : ProfileRow) : Bool :=
  decide (field r.w0 8 4 = 0) && decide (field r.w1 8 4 = 0) && !bit r.w3 11
    && decide (30 ≤ r.bpmMin ∧ r.bpmMin ≤ 200) && decide (r.bpmMin ≤ r.bpmMax ∧ r.bpmMax ≤ 200)
    && decide (r.alpha ≤ 16) && decide (r.beta ≤ 16) && r.leadLoft.isSome

/-- The profile the Beat Follower copies from a row, with Pmin and Pmax (R46). A stored row has a lead loft 0..2 (R164). -/
def ProfileRow.profile (r : ProfileRow) : Profile where
  bpmMin := r.bpmMin
  bpmMax := r.bpmMax
  alpha := r.alpha
  beta := r.beta
  leadLoft := r.leadLoft.getD .either
  k := field r.w3 8 3 + 1
  engage := field r.w3 6 2 + 1
  silence := field r.w3 2 4 + 1
  minStrength := field r.w3 0 2
  gate := field r.w4 8 4 + 1
  fermata := field r.w4 4 4 + 1
  starve := field r.w4 0 4 + 1
  pmin := Config.tempoNumerator / r.bpmMax
  pmax := Config.tempoNumerator / r.bpmMin

def RegistrationRow.valid (r : RegistrationRow) : Bool := decide (field r.w0 7 5 = 0)

/-- Whether the voice mask plays a voice: bits 6 S, 5 A, 4 T, 3 B (R123). -/
def RegistrationRow.plays (r : RegistrationRow) : Voice → Bool
  | .soprano => bit r.w0 6
  | .alto => bit r.w0 5
  | .tenor => bit r.w0 4
  | .bass => bit r.w0 3

/-- Whether a row gives an octave: bits 2 unison, 1 sub-octave, 0 super-octave (R123). -/
def RegistrationRow.gives (r : RegistrationRow) : Octave → Bool
  | .unison => bit r.w0 2
  | .sub => bit r.w0 1
  | .super => bit r.w0 0

/-- Row `set × 4 + division` of the registration table (R123). -/
def registrationIndex (set : BitVec 4) (d : Division) : Fin 64 :=
  ⟨set.toNat * 4 + d.val, by have := set.isLt; have := d.isLt; omega⟩

/-! ### Positions, rows and origins (R22) -/

/-- The extended tag: tag base × 4 + sub-beat. -/
def extendedTag (base : Fin 50) (sub : Fin 4) : RowNumber :=
  ⟨base.val * 4 + sub.val, by have := base.isLt; have := sub.isLt; omega⟩

/-- The origin of a row by its number (R22). -/
def rowOrigin (r : RowNumber) : Origin :=
  if r.val < 192 then .normal else if r.val < 196 then .flipped else .foreign

end Sys2Proof.Machine
end

