-- ==== Sys2Proof/Machine/Ops.lean ====
section
/-!
DEFINITION. The shared operations: the beat clock, the Cue Table and its list, silencing, owed ALL-OFFs, release marks.
-/

namespace Sys2Proof.Machine

/-! ### The beat clock (R43 to R47) -/

/-- d(q) = floor((q − Ba) × P / 64), exact and rounded toward minus infinity (R43). -/
def Follower.offset (f : Follower) (q : Nat) : Int := ((q : Int) - (f.ba : Int)) * (f.period : Int) / 64

/-- p(q) = Ta + d(q) modulo 2^24 (R43). -/
def Follower.predicted (f : Follower) (q : Nat) : Time := f.ta + BitVec.ofInt 24 (f.offset q)

/-- Match window W (R45). -/
def Follower.window (f : Follower) : Nat := f.period * f.profile.k / 256

/-- Silence span (R45). -/
def Follower.silenceSpan (f : Follower) : Nat := f.profile.silence * f.period / 16

/-- Gate limit (R45). -/
def Follower.gateLimit (f : Follower) : Nat := f.profile.gate * f.period / 16

/-- Fermata limit (R45). -/
def Follower.fermataLimit (f : Follower) : Nat := f.profile.fermata * f.period / 16

/-- Starve limit (R45). -/
def Follower.starveLimit (f : Follower) : Nat := f.profile.starve * f.period / 16

/-- r of R59, and the starvation horizon of R60: the last released position, or Ba when it is absent. -/
def Follower.horizon (f : Follower) : Nat := f.lastReleased.getD f.ba

/-- For which positions p(q) is defined, by follower state (R43). -/
def Follower.defines (f : Follower) (q : Nat) : Bool :=
  match f.mode with
  | .idle => false
  | .countIn => false
  | .lead => true
  | .follow => true
  | .freeze => match f.freeze with
    | some r => decide (q ≤ r.position)
    | none => false
  | .starved => decide (q ≤ f.horizon)

/-- Device time reaches p(q) + x: the anchor age is at least d(q) + x (R44). -/
def Follower.reached (f : Follower) (q : Nat) (x : Int) : Bool := decide (f.offset q + x ≤ f.age)

/-- Device time passes p(q) + x: the anchor age is greater than d(q) + x (R44). -/
def Follower.passed (f : Follower) (q : Nat) (x : Int) : Bool := decide (f.offset q + x < f.age)

/-- A re-anchor: Ta and Ba replaced and the anchor age set to the signed difference now − Ta (R44, R47). -/
def Follower.anchor (f : Follower) (now ta : Time) (ba : Nat) : Follower :=
  { f with ta := ta, ba := ba, age := Time.diff now ta }

/-- The match count risen by one, saturating at 4 (R54, R75). -/
def Follower.countMatch (f : Follower) : Follower := { f with matchCount := min (f.matchCount + 1) 4 }

/-- Engagement: LEAD with a match count at or above the engage count becomes FOLLOW at the end of the event (R54). -/
def Follower.engage (f : Follower) : Follower :=
  if f.mode = .lead ∧ f.profile.engage ≤ f.matchCount then { f with mode := .follow } else f

/-- The state a freeze returns to (R94, R96, R97). -/
def Running.mode : Running → Mode
  | .lead => .lead
  | .follow => .follow

/-- LEAD or FOLLOW. -/
def Mode.running : Mode → Bool
  | .lead => true
  | .follow => true
  | .idle => false
  | .countIn => false
  | .freeze => false
  | .starved => false

/-- LEAD, FOLLOW or FREEZE, the states in which rows release and gates arm (R83, R106). -/
def Mode.playing : Mode → Bool
  | .lead => true
  | .follow => true
  | .freeze => true
  | .idle => false
  | .countIn => false
  | .starved => false

/-- The follower's record is replaced. -/
def State.setFollower (s : State) (f : Follower) : State := { s with follower := f }

/-- A stored time's deadline, the time plus a span, has passed (R2, R44). -/
def State.deadlinePassed (s : State) (t : Time) (span : Nat) : Bool :=
  Time.passed s.deviceTime (t + BitVec.ofNat 24 span)

/-! ### The Cue Table and the Release Order List (R23 to R41) -/

/-- The row numbers 0..199 in order. -/
def allRows : List RowNumber := List.finRange 200

/-- One row is replaced. -/
def State.setRow (s : State) (r : RowNumber) (c : CueRow) : State := { s with cues := s.cues.set r c }

/-- A row that becomes EMPTY keeps every field but its armed field, which becomes absent (R40). -/
def CueRow.emptied (c : CueRow) : CueRow := { c with rowState := .empty, armed := none }

/-- A row that leaves GATED by opening: PENDING, its armed field absent, its gate mode kept (R25, R82). -/
def CueRow.opened (c : CueRow) : CueRow := { c with rowState := .pending, armed := none }

/-- STOP's effect on one row: only a row that is not EMPTY changes (R41). -/
def CueRow.stopped (c : CueRow) : CueRow := if c.rowState = .empty then c else c.emptied

/-- The match mark of a loft. -/
def CueRow.mark (c : CueRow) : Loft → Bool
  | .east => c.eastMark
  | .west => c.westMark

/-- The match mark of a loft is set (R68). -/
def CueRow.setMark (c : CueRow) : Loft → CueRow
  | .east => { c with eastMark := true }
  | .west => { c with westMark := true }

/-- A syllable row without the loft's mark. -/
def CueRow.awaits (c : CueRow) (l : Loft) : Bool := c.syllable && !c.mark l

/-- Position of the head of the list, or none (R38). -/
def State.headPosition (s : State) : Option Nat := s.rol.head?.map fun r => s.cues[r].position

/-- Earliest row on the list without division `d`'s release mark (R38). -/
def State.earliestUnreleased (s : State) (d : Division) : Option RowNumber :=
  s.rol.find? fun r => !s.cues[r].released[d]

/-- Earliest GATED row on the list (R38). -/
def State.earliestGated (s : State) : Option RowNumber :=
  s.rol.find? fun r => decide (s.cues[r].rowState = .gated)

/-- Whether a row on the list stands in PENDING or GATED (R38). -/
def State.waiting (s : State) : Bool :=
  s.rol.any fun r => decide (s.cues[r].rowState = .pending) || decide (s.cues[r].rowState = .gated)

/-- First row on the list after position `f` (R38). -/
def State.firstAfter (s : State) (f : Nat) : Option RowNumber :=
  s.rol.find? fun r => decide (f < s.cues[r].position)

/-- The number of EMPTY rows (R35). -/
def State.freeRows (s : State) : Nat := allRows.countP fun r => decide (s.cues[r].rowState = .empty)

/-- The rows that stand on the list after a GATED row (R66). -/
def State.behindGate (s : State) : List RowNumber :=
  (s.rol.dropWhile fun r => decide (s.cues[r].rowState ≠ .gated)).tail

/-- A GATED row opens and the clock is re-anchored on it at `ta` (R85, R87, R89, R93, R96, R97, R101). -/
def State.openRow (s : State) (r : RowNumber) : State :=
  if s.cues[r].rowState = .gated then s.setRow r s.cues[r].opened else s

/-- The clock is re-anchored at `ta` on row `r`'s position, P unchanged (R47). -/
def State.anchorOn (s : State) (r : RowNumber) (ta : Time) : State :=
  s.setFollower (s.follower.anchor s.deviceTime ta s.cues[r].position)

/-- The match mark of the loft is set on the chosen row (R68). -/
def State.matchMark (s : State) (r : RowNumber) (l : Loft) : State := s.setRow r (s.cues[r].setMark l)

/-- The update mark of the row is set (R69). -/
def State.updateMark (s : State) (r : RowNumber) : State :=
  { s with updateMarks := s.updateMarks.set r true }

/-! ### Arming (R83) -/

/-- The earliest GATED row, when it is unarmed and its defined predicted time is reached in LEAD, FOLLOW or FREEZE (R83). -/
def State.armRow (s : State) : Option RowNumber :=
  match s.earliestGated with
  | some r =>
    if s.follower.mode.playing && s.follower.defines s.cues[r].position
        && s.follower.reached s.cues[r].position 0 && s.cues[r].armed.isNone then some r
    else none
  | none => none

/-- That row armed with arm time now. The ARM event does this, and so does every re-anchor as the last thing in its own
event: a row the new clock has reached arms at once (R47, R83). -/
def State.armReached (s : State) : State :=
  match s.armRow with
  | some r => s.setRow r { s.cues[r] with armed := some s.deviceTime }
  | none => s

/-! ### Divisions and ports -/

/-- An operation on each division in turn. -/
def forDivisions (g : Division → State → State) (s : State) : State := g 3 (g 2 (g 1 (g 0 s)))

/-- One port is replaced. -/
def State.setPort (s : State) (d : Division) (p : Port) : State := { s with ports := s.ports.set d p }

/-- One division's Mapper record is replaced. -/
def State.setDivision (s : State) (d : Division) (r : DivisionRecord) : State :=
  { s with divisions := s.divisions.set d r }

/-- One division's held release is replaced. -/
def State.setHeld (s : State) (d : Division) (h : Option RowNumber) : State :=
  { s with held := s.held.set d h }

/-- A port is owed an ALL-OFF unless it is OFF; one already owed stays one (R137, R149). -/
def Port.oweAllOff (p : Port) : Port := if p.state = .off then p else { p with owedAllOff := true }

/-- Silencing a division (R137): its record all silent, and its port owed one ALL-OFF. -/
def State.silence (d : Division) (s : State) : State :=
  (s.setDivision d DivisionRecord.silent).setPort d s.ports[d].oweAllOff

/-- A WAITING port returns to ACTIVE with its waiting-since time absent; nothing is left to offer (R150). -/
def Port.endWait (p : Port) : Port :=
  if p.state = .waiting then { p with state := .active, waitingSince := none, offerDue := false } else p

/-- A held release is withdrawn: no mark, no counter, the port back to ACTIVE (R113, R150). -/
def State.withdraw (d : Division) (s : State) : State :=
  (s.setHeld d none).setPort d s.ports[d].endWait

/-- STOP and starvation entry at one port: the held release is withdrawn, the division silenced, the queue and the
credits kept (R156). -/
def State.quiet (d : Division) (s : State) : State := (s.withdraw d).silence d

/-- Free slots of a valve queue (R148). -/
def Port.freeSlots (p : Port) : Nat := Config.queueCapacity - p.queue.length

/-- Whether the owed ALL-OFF can enter: owed, port ACTIVE or WAITING, a slot free (R149). -/
def Port.allOffReady (p : Port) : Bool :=
  p.owedAllOff && (decide (p.state = .active) || decide (p.state = .waiting)) && decide (0 < p.freeSlots)

/-- The port has changed in its free slots or its owed ALL-OFF: while it is WAITING its held release is to be offered (R112). -/
def Port.noteChange (p : Port) : Port := if p.state = .waiting then { p with offerDue := true } else p

/-- The ALL-OFF word is appended at the queue's tail and the flag cleared (R149). -/
def Port.enterAllOff (p : Port) : Port :=
  Port.noteChange { p with queue := p.queue ++ [ValveWord.allOff], owedAllOff := false }

/-- The owed ALL-OFF of a port enters if it can (R149). -/
def State.enterAllOff (d : Division) (s : State) : State :=
  if s.ports[d].allOffReady then s.setPort d s.ports[d].enterAllOff else s

/-! ### Release marks (R114, R115) -/

/-- Division `d`'s mark set on a row: RELEASING, or LISTEN when it is the fourth. -/
def CueRow.release (c : CueRow) (d : Division) : CueRow :=
  let released := c.released.set d true
  { c with
    released := released
    rowState := if released[0] && released[1] && released[2] && released[3] then .listen else .releasing }

/-- The last released position raised to `q` (R58). -/
def Follower.noteReleased (f : Follower) (q : Nat) : Follower :=
  { f with lastReleased := some (match f.lastReleased with
      | none => q
      | some l => max l q) }

/-- Setting division `d`'s release mark on row `r`: the row's state, the list, the last released position (R114, R115). -/
def State.markReleased (d : Division) (r : RowNumber) (s : State) : State :=
  let c := s.cues[r].release d
  { s with
    cues := s.cues.set r c
    rol := if c.rowState = .listen then s.rol.erase r else s.rol
    follower := s.follower.noteReleased c.position }

/-! ### Lock counting (R7 to R10, R145) -/

/-- SEARCH from counts of zero (R9). -/
def FrameLock.lost (l : FrameLock) : FrameLock :=
  { l with aligned := none, counts := Vector.replicate 16 0 }

/-- A SYNC completing on alignment `a`, with lock count `n` (R7, R8, R9): the count rises, saturating at `n`, and is
compared; the lock may be taken, kept, or lost to a competing alignment. -/
def FrameLock.countSync (l : FrameLock) (n : Nat) (now : Time) (a : Alignment) : FrameLock :=
  let c := min (l.counts[a] + 1) n
  match l.aligned with
  | none =>
    if n ≤ c then
      { aligned := some a, counts := (Vector.replicate 16 0).set a c, lastSync := now }
    else { l with counts := l.counts.set a c }
  | some b =>
    if a = b then { l with counts := (Vector.replicate 16 0).set a c, lastSync := now }
    else if n ≤ 2 * c then l.lost
    else { l with counts := l.counts.set a c }

/-- Lock is held and device time has passed the last lock SYNC plus 48 (R9). -/
def FrameLock.timedOut (l : FrameLock) (now : Time) : Bool :=
  l.aligned.isSome && Time.passed now (l.lastSync + Config.lockLimit)

end Sys2Proof.Machine
end

