-- ==== Sys2Proof/Machine/Mapper.lean ====
section
/-!
DEFINITION. The Registration Mapper: from a cue to a division's new record and its run of valve words (07).
-/

namespace Sys2Proof.Machine

/-- The four voices in the order S, A, T, B. -/
def allVoices : List Voice := [.soprano, .alto, .tenor, .bass]

/-- The three octaves. -/
def allOctaves : List Octave := [.unison, .sub, .super]

/-- The effective set of a cue: its set plus the starting set, modulo 16 (R124). -/
def effectiveSet (f : Follower) (c : CueRow) : BitVec 4 := c.regSet + f.startingSet

/-! ### Second step: the Voice Register (R132) -/

/-- A voice's new entry. -/
def newEntry (row : RegistrationRow) (v : Voice) (code : Value6) (old : Option Value6) : Option Value6 :=
  if !row.plays v then none
  else if code = 0 ∨ code = 63 then none
  else if code = 1 then old
  else some code

/-- Whether a voice is held: it keeps a sounding entry by a tie. -/
def voiceHeld (row : RegistrationRow) (v : Voice) (code : Value6) (old : Option Value6) : Bool :=
  row.plays v && decide (code = 1) && old.isSome

/-- The new Voice Register. -/
def newRegister (row : RegistrationRow) (codes : Voices Value6) (old : Voices (Option Value6)) :
    Voices (Option Value6) where
  soprano := newEntry row .soprano codes.soprano old.soprano
  alto := newEntry row .alto codes.alto old.alto
  tenor := newEntry row .tenor codes.tenor old.tenor
  bass := newEntry row .bass codes.bass old.bass

/-! ### Third step: holders and the Key Map (R127 to R129, R133) -/

/-- The shift of an octave. -/
def Octave.shift : Octave → Int
  | .unison => 0
  | .sub => -12
  | .super => 12

/-- The signed key a holder of code `c` falls on (R126, R127). -/
def holderKey (transposition : Int) (c : Value6) (o : Octave) : Int :=
  (c.toNat : Int) - 2 + transposition + o.shift

/-- The holders of one voice with their keys (R127). -/
def voiceHolders (row : RegistrationRow) (transposition : Int) (v : Voice) (entry : Option Value6) :
    List (Holder × Int) :=
  match entry with
  | none => []
  | some c =>
    if row.plays v then
      (allOctaves.filter row.gives).map fun o => (⟨v, o⟩, holderKey transposition c o)
    else []

/-- All holders derived from a Voice Register (R127). -/
def derivedHolders (row : RegistrationRow) (transposition : Int) (reg : Voices (Option Value6)) :
    List (Holder × Int) :=
  allVoices.flatMap fun v => voiceHolders row transposition v (reg.get v)

/-- Whether a key lies in the compass (R128). -/
def inCompass (low high : Nat) (k : Int) : Bool := decide ((low : Int) ≤ k ∧ k ≤ (high : Int))

/-- The number of distinct keys outside the compass on which a holder falls (R128). -/
def droppedKeys (low high : Nat) (hs : List (Holder × Int)) : Nat :=
  ((hs.map Prod.snd).filter fun k => !inCompass low high k).dedup.length

/-- The holders kept on one key (R128, R129). -/
def keptHolders (low high : Nat) (hs : List (Holder × Int)) (key : Fin 73) : List Holder :=
  (hs.filter fun p => inCompass low high p.2 && decide (p.2 = (key.val : Int))).map Prod.fst

/-- The Key Map built from derived holders (R133). -/
def newKeyMap (low high : Nat) (hs : List (Holder × Int)) : Vector (List Holder) 73 :=
  Vector.ofFn (keptHolders low high hs)

/-! ### Fourth step: key events (R134) and the run (R135) -/

/-- At least one holder of the new set is carried: its voice is held and it stood in the old set (R133). -/
def anyCarried (held : Voice → Bool) (before after : List Holder) : Bool :=
  after.any fun h => held h.voice && decide (h ∈ before)

/-- The key has a key-off, a re-strike's included (R134). -/
def keyOff (held : Voice → Bool) (before after : List Holder) : Bool :=
  !before.isEmpty && (after.isEmpty || !anyCarried held before after)

/-- The key has a key-on, a re-strike's included (R134). -/
def keyOn (held : Voice → Bool) (before after : List Holder) : Bool :=
  !after.isEmpty && (before.isEmpty || !anyCarried held before after)

/-- Every key-off in ascending key, then every key-on in ascending key (R135). -/
def keyEvents (held : Voice → Bool) (before after : Vector (List Holder) 73) : List KeyEvent :=
  (((List.finRange 73).filter fun k => keyOff held before[k] after[k]).map fun k => ⟨false, k⟩)
    ++ (((List.finRange 73).filter fun k => keyOn held before[k] after[k]).map fun k => ⟨true, k⟩)

/-- Key events packed three to a KEYS word, the last filled with null slots (R135). -/
def packEvents : List KeyEvent → List ValveWord
  | [] => []
  | [a] => [.keys a none none]
  | [a, b] => [.keys a (some b) none]
  | a :: b :: c :: rest => .keys a (some b) (some c) :: packEvents rest

/-- The stop words of a change of set (R131). -/
def stopWords (row : RegistrationRow) : List ValveWord := [.stopA row.w1, .stopB row.w2]

/-! ### The four steps together (R130) -/

/-- What an application gives: the new record, the run, and the number of dropped keys (R130). -/
structure Application where
  record : DivisionRecord
  run : List ValveWord
  dropped : Nat
  deriving DecidableEq, Repr

/-- The application of a cue with effective set `set` to a division's record (R131 to R135). -/
def applySteps (row : RegistrationRow) (low high : Nat) (transposition : Int) (set : BitVec 4)
    (codes : Voices Value6) (old : DivisionRecord) : Application :=
  let reg := newRegister row codes old.register
  let hs := derivedHolders row transposition reg
  let keys := newKeyMap low high hs
  let held := fun v => voiceHeld row v (codes.get v) (old.register.get v)
  { record := { currentSet := some set, register := reg, keyMap := keys }
    run := (if old.currentSet = some set then [] else stopWords row)
      ++ packEvents (keyEvents held old.keyMap keys)
    dropped := droppedKeys low high hs }

/-- Computing the application of row `r`'s cue to division `d` from the records and tables as they stand (R123, R130). -/
def State.computeCue (s : State) (d : Division) (r : RowNumber) : Application :=
  let set := effectiveSet s.follower s.cues[r]
  applySteps s.tables.registration[registrationIndex set d]
    s.tables.division[d].compassLow s.tables.division[d].compassHigh
    s.follower.transposition set s.cues[r].voices s.divisions[d]

/-- Applying: the record takes its new value and counter 14 rises by the dropped keys (R128, R130). -/
def State.applyCue (s : State) (d : Division) (r : RowNumber) : State :=
  (s.setDivision d (s.computeCue d r).record).raiseBy Counter.keysOrCodes (s.computeCue d r).dropped

/-! ### The valve word (R143) -/

/-- An event byte: bit 7 key-on, bits 6..0 the key; 0x7F for a null slot (R143). -/
def eventByte : Option KeyEvent → BitVec 8
  | none => 0x7F
  | some e => (if e.on then 0x80 else 0) ||| BitVec.ofNat 8 e.key.val

/-- The 24 bits of a valve word, first byte highest (R143). -/
def ValveWord.bits : ValveWord → BitVec 24
  | .keys a b c => eventByte (some a) ++ eventByte b ++ eventByte c
  | .stopA ranks => (0x60 : BitVec 8) ++ (0 : BitVec 4) ++ ranks
  | .stopB ranks => (0x61 : BitVec 8) ++ (0 : BitVec 4) ++ ranks
  | .allOff => 0x620000

/-- The first half: the first byte × 16 plus the second byte divided by 16 (R144). -/
def ValveWord.firstHalf (w : ValveWord) : Data12 := w.bits.extractLsb' 12 12

/-- The second half: the second byte modulo 16, × 256, plus the third byte (R144). -/
def ValveWord.secondHalf (w : ValveWord) : Data12 := w.bits.extractLsb' 0 12

end Sys2Proof.Machine
end

