-- ==== Sys2Proof/Machine/NaveLink.lean ====
section
/-!
DEFINITION. The Nave Receiver: reset, frame lock, message assembly and the opening of LOAD streams (01). DATA, whose table
words reach the ports, stands in Tables.lean.
Meanings: POWER_RESET, RESET_RELEASE, SYNC, LOCK_LOSS, CHORD_HEADER, COMMAND_HEADER, FILL, CORRUPTED_SYNC, LOST_ONSET,
DAMAGED_FRAME, LOAD.
-/

namespace Sys2Proof.Machine

/-- What a command answers here: a next state, always (log 15). -/
abbrev Result := Host.Outcome State Fault Refusal

/-- While RESET_n is low no event but its release acts (R11, R142, R169). -/
def State.live (s : State) (g : State → State) : State := if s.resetHeld then s else g s

/-- A frame on the lock alignment is decoded only in LOCKED (R7, R12). -/
def State.decoded (s : State) (g : State → State) : State :=
  if s.resetHeld || s.nave.aligned.isNone then s else g s

/-! ### Reset (R11) -/

/-- Every block in its power-reset state; the queue of commands is outside the device (R11, log 14). -/
def State.powerReset (s : State) : State := { State.reset with pending := s.pending }

/-- The end of power reset: the straps are sampled, device time may advance, owed ALL-OFFs enter (R1, R11, R142, R149). -/
def State.resetRelease (s : State) (straps : BitVec 3) : State :=
  if s.resetHeld then
    forDivisions State.enterAllOff { s with resetHeld := false, partAddress := straps }
  else s

def execPowerReset (s : State) : Result := .next s.powerReset

def execResetRelease (straps : BitVec 3) (s : State) : Result := .next (s.resetRelease straps)

/-! ### Ending what is in progress (R9, R14, R19) -/

/-- The message or stream in progress is dropped with counter 4; nothing in READY (R9, R14). -/
def State.abort (s : State) : State :=
  match s.assembly with
  | .ready => s
  | .assembling _ => { s.raise Counter.abortedOrMalformed with assembly := .ready }
  | .streaming _ => { s.raise Counter.abortedOrMalformed with assembly := .ready }

/-- What a header does to what is in progress: a message is aborted, a stream ends, an acting stream's partial row
is discarded with counter 17 (R14, R19). -/
def State.endByHeader (s : State) : State :=
  match s.assembly with
  | .ready => s
  | .assembling _ => s.abort
  | .streaming l =>
    if l.acting && !l.staged.isEmpty then { s.raise Counter.loadRefusals with assembly := .ready }
    else { s with assembly := .ready }

/-! ### LOAD (R17) -/

/-- The stream a LOAD payload opens: acting only if the table and starting row exist (R17). -/
def openedStream (acting : Bool) (p : Data12) : LoadStream :=
  let table := p.extractLsb' 8 4
  let row := field p 0 8
  { acting := acting && (match tableShape table with
      | some (rows, _) => decide (row < rows)
      | none => false)
    table := table
    nextRow := row
    staged := [] }

/-- The complete LOAD message standing in the assembly: its acting mark and payload (R17, log 5). -/
def Assembly.completeLoad : Assembly → Option (Bool × Data12)
  | .assembling ⟨.command _ .load, acting, [p]⟩ => some (acting, p)
  | _ => none

/-- A LOAD stream opens in the place of the complete LOAD message; a refused one raises counter 17 (R17). -/
def State.openLoad (s : State) : State :=
  match s.assembly.completeLoad with
  | none => s
  | some (acting, p) =>
    let l := openedStream acting p
    let s1 := { s with assembly := .streaming l }
    if acting && !l.acting then s1.raise Counter.loadRefusals else s1

/-! ### Loss of lock (R9) -/

/-- Loss of lock (R9). A complete LOAD has opened its stream by then (R17, log 5). -/
def State.loseLock (s : State) : State :=
  let s0 := s.openLoad
  let s1 := ({ s0 with nave := s0.nave.lost }.raise Counter.lockLosses).abort
  if s1.follower.mode = .idle then s1 else s1.setFlag .lockLost

/-! ### Assembly (R13, R16) -/

/-- A complete message: a LOAD waits for its stream to open, any other is handed on if it is acting (R13). -/
def State.complete (s : State) (m : Message) : State :=
  match m.header with
  | .command _ .load => { s with assembly := .assembling m }
  | h => { s with
      assembly := .ready
      handed := if m.acting then s.handed ++ (h.handed m.payloads).toList else s.handed }

/-- The message in progress, complete or not. -/
def State.assemble (s : State) (m : Message) : State :=
  if m.payloads.length < m.header.expected then { s with assembly := .assembling m } else s.complete m

/-- A header opens a message, after ending what is in progress (R13, R14). -/
def State.takeHeader (s : State) (h : Header) (acting : Bool) : State :=
  s.endByHeader.assemble { header := h, acting := acting, payloads := [] }

/-- A damaged frame other than a corrupted sync: what is in progress is aborted, and counter `c` rises (R14). -/
def State.takeDamaged (s : State) (c : Counter) : State := s.abort.raise c

/-! ### Meanings of the frames -/

/-- A SYNC completing on alignment `a` (R7 to R9). Loss to a competing alignment is part of this event (log 7). -/
def State.takeSync (s : State) (a : Alignment) : State :=
  let lock := s.nave.countSync s.tables.control.lockCount s.deviceTime a
  if s.nave.aligned.isSome && lock.aligned.isNone then s.loseLock
  else if s.nave.aligned.isNone && lock.aligned.isSome then { s with nave := lock, assembly := .ready }
  else { s with nave := lock }

def execSync (a : Alignment) (s : State) : Result := .next (s.live fun s => s.takeSync a)

/-- Lock is lost when device time passes the last lock SYNC plus 48 (R9). -/
def State.takeLockLoss (s : State) : State :=
  if s.nave.timedOut s.deviceTime then s.loseLock else s

def execLockLoss (s : State) : Result := .next (s.live State.takeLockLoss)

/-- A K2 frame: a CHORD header with its tag base, or, with a control symbol second, a damaged frame (R5, R15, R16). -/
def State.takeChordHeader (s : State) (second : Symbol) : State :=
  match tagBase second with
  | some base => s.takeHeader (.chord base) true
  | none => s.takeDamaged Counter.damagedFrames

def execChordHeader (second : Symbol) (s : State) : Result :=
  .next (s.decoded fun s => s.openLoad.takeChordHeader second)

/-- A COMMAND header, acting or not by its address (R5, R13, R16). -/
def State.takeCommandHeader (s : State) (v : Value6) : State :=
  s.takeHeader (.command (headerAddress v) (headerCode v))
    (actsOn s.partAddress (headerAddress v) (headerCode v))

def execCommandHeader (v : Value6) (s : State) : Result :=
  .next (s.decoded fun s => s.openLoad.takeCommandHeader v)

/-- FILL has no effect, or stands interleaved (R14). -/
def execFill (s : State) : Result := .next s

/-- A corrupted sync: counter 7 (R14). -/
def execCorruptedSync (s : State) : Result :=
  .next (s.decoded fun s => s.raise Counter.corruptedSyncs)

/-- A lost onset: counter 8, and an abort (R14). -/
def execLostOnset (s : State) : Result :=
  .next (s.decoded fun s => s.openLoad.takeDamaged Counter.lostOnsets)

/-- Any other damaged frame: counter 6, and an abort (R14). -/
def execDamagedFrame (s : State) : Result :=
  .next (s.decoded fun s => s.openLoad.takeDamaged Counter.damagedFrames)

/-- The LOAD event: the complete LOAD message opens its stream (R17). -/
def execLoad (s : State) : Result := .next (s.live State.openLoad)

end Sys2Proof.Machine
end

