-- ==== Sys2Proof/Machine/Placement.lean ====
section
/-!
DEFINITION. The Cue Placer (02): the checks of a chord and the filling of rows. Meanings: CHORD_MESSAGE, LISTEN_EXPIRY.
-/

namespace Sys2Proof.Machine

/-- The row a cue fills: every field of the record written at once (R30, R32). -/
def placedRow (q : Nat) (codes : Voices Value6) (set : BitVec 4) (syllable fermata : Bool) (gate : GateMode) :
    CueRow where
  rowState := if gate = .none then .pending else .gated
  position := q
  voices := codes
  regSet := set
  syllable := syllable
  fermata := fermata
  gateMode := gate
  armed := none
  released := Vector.replicate 4 false
  eastMark := false
  westMark := false

/-- A cue filled: its row, the tail of the list, the high mark, the update mark cleared, counters 0 and 14 (R24, R30, R69). -/
def State.fillRow (s : State) (r : RowNumber) (c : CueRow) : State :=
  let s1 := { s with
    cues := s.cues.set r c
    updateMarks := s.updateMarks.set r false
    rol := s.rol ++ [r]
    highMark := (c.position : Int) }
  (s1.raise Counter.cuesPlaced).raiseBy Counter.keysOrCodes c.voices.invalidCodes

/-- One cue through the checks "out of order" and "tag in use", and then filled (R30, R31). -/
def State.placeCue (s : State) (r : RowNumber) (c : CueRow) : State :=
  if (c.position : Int) ≤ s.highMark then (s.raise Counter.outOfOrder).setFlag .outOfOrder
  else if s.cues[r].rowState ≠ .empty then (s.raise Counter.tagInUse).setFlag .tagInUse
  else s.fillRow r c

/-- The cue of sub-beat `sub` of a chord: the earliest set sub-beat takes the gate mode, the latest the fermata flag (R32). -/
def chordCue (gate : GateMode) (d1 d2 d3 d4 : Data12) (sub : Fin 4) : CueRow :=
  placedRow (4 * d1.toNat + sub.val) (chordVoices d3 d4) (d2.extractLsb' 0 4) (bit d2 5)
    (bit d2 4 && decide ((chordSubBeats d2).getLast? = some sub))
    (if (chordSubBeats d2).head? = some sub then gate else .none)

/-- A chord: malformed, no hymn, or its set sub-beats placed in ascending order (R27 to R32). -/
def State.placeChord (s : State) (base : Fin 50) (d1 d2 d3 d4 : Data12) : State :=
  match chordGate d2 with
  | none => s.raise Counter.abortedOrMalformed
  | some gate =>
    if chordPattern d2 = 0 then s.raise Counter.abortedOrMalformed
    else if s.follower.mode = .idle then s.raise Counter.noHymn
    else (chordSubBeats d2).foldl
      (fun s sub => s.placeCue (extendedTag base sub) (chordCue gate d1 d2 d3 d4 sub)) s

/-- The CHORD_MESSAGE event: the chord first in line is placed (R13, R21, R27). -/
def State.takeChordMessage (s : State) : State :=
  match s.handed with
  | .chord base d1 d2 d3 d4 :: rest => { s with handed := rest }.placeChord base d1 d2 d3 d4
  | _ => s

def execChordMessage (s : State) : Result := .next (s.live State.takeChordMessage)

/-! ### Leaving LISTEN (R39) -/

/-- A LISTEN row with a defined predicted time p(q), and device time has passed p(q) + W. -/
def State.listenEnds (s : State) (r : RowNumber) : Bool :=
  decide (s.cues[r].rowState = .listen) && s.follower.defines s.cues[r].position
    && s.follower.passed s.cues[r].position s.follower.window

/-- LISTEN_EXPIRY: the row becomes EMPTY (R39, R40). -/
def State.takeListenExpiry (s : State) (r : RowNumber) : State :=
  if s.listenEnds r then s.setRow r s.cues[r].emptied else s

def execListenExpiry (r : RowNumber) (s : State) : Result := .next (s.live fun s => s.takeListenExpiry r)

end Sys2Proof.Machine
end

