-- ==== Sys2Proof/Machine/Follower.lean ====
section
/-!
DEFINITION. The Beat Follower's commands and entries (03).
Meanings: HYMN, START, STOP, SILENCE_FALL, FREEZE_ENTRY, STARVATION_ENTRY.
-/

namespace Sys2Proof.Machine

/-- A command refused: counter 20, and nothing else (R49, R50, R53, R61, R86, R153, R176). -/
def State.refuse (s : State) : State := s.raise Counter.commandsRefused

/-- Clamped to [a, b]: raised to a if less, lowered to b if greater (00, "Arithmetic"). -/
def clamp (a b x : Nat) : Nat := min (max x a) b

/-! ### HYMN (R50, R51) -/

/-- The follower's record at an accepted HYMN, steps 1 to 5 and 7 (R51). -/
def Follower.hymn (f : Follower) (now : Time) (profile : Profile) (d1 d2 : Data12) : Follower :=
  { f with
    mode := .countIn
    ta := now
    ba := 0
    age := 0
    period := clamp profile.pmin profile.pmax (Config.tempoNumerator / d2.toNat)
    profile := profile
    transposition := (hymnTranspositionCode d1 : Int) - 6
    startingSet := hymnStartingSet d1
    prevUpdate := none
    matchCount := 0
    lastMatch := now
    lastReleased := none
    freeze := none
    lastFreeze := -1 }

/-- HYMN: accepted in IDLE with every field in range, else refused once (R50, R51). -/
def State.hymn (s : State) (d1 d2 : Data12) : State :=
  if s.follower.mode = .idle ∧ hymnFieldsAccepted d1 d2 = true then
    { s with
      follower := s.follower.hymn s.deviceTime s.tables.profile[hymnProfile d1].profile d1 d2
      highMark := -1 }
  else s.refuse

def State.takeHymn (s : State) : State :=
  match s.handed with
  | .hymn d1 d2 :: rest => { s with handed := rest }.hymn d1 d2
  | _ => s

def execHymn (s : State) : Result := .next (s.live State.takeHymn)

/-! ### START (R53) -/

/-- The follower's record at an accepted START on head position `q` with delay `d1` (R53). -/
def Follower.start (f : Follower) (now : Time) (q : Nat) (d1 : Data12) : Follower :=
  { f.anchor now (now + d1.setWidth 24) q with mode := .lead, prevUpdate := some q, matchCount := 0 }

/-- START: accepted in COUNT-IN or STARVED while the list is not empty (R53). -/
def State.start (s : State) (d1 : Data12) : State :=
  if s.follower.mode = .countIn ∨ s.follower.mode = .starved then
    match s.headPosition with
    | some q => (s.setFollower (s.follower.start s.deviceTime q d1)).armReached
    | none => s.refuse
  else s.refuse

def State.takeStart (s : State) : State :=
  match s.handed with
  | .start d1 :: rest => { s with handed := rest }.start d1
  | _ => s

def execStart (s : State) : Result := .next (s.live State.takeStart)

/-! ### STOP (R61) -/

/-- The Cue Table and list at STOP: every row EMPTY, the list empty (R41). -/
def State.emptyTable (s : State) : State :=
  { s with cues := s.cues.map CueRow.stopped, rol := [] }

/-- The follower's record at STOP (R61). -/
def Follower.stop (f : Follower) : Follower :=
  { f with mode := .idle, freeze := none, matchCount := 0, prevUpdate := none }

/-- STOP: accepted in every state but IDLE (R41, R61, R121, R156). -/
def State.stop (s : State) : State :=
  if s.follower.mode = .idle then s.refuse
  else forDivisions State.quiet (s.setFollower s.follower.stop).emptyTable

def State.takeStop (s : State) : State :=
  match s.handed with
  | .stop :: rest => { s with handed := rest }.stop
  | _ => s

def execStop (s : State) : Result := .next (s.live State.takeStop)

/-! ### FOLLOW falls to LEAD (R55) -/

def State.silenceFalls (s : State) : Bool :=
  decide (s.follower.mode = .follow) && s.deadlinePassed s.follower.lastMatch s.follower.silenceSpan

def State.takeSilenceFall (s : State) : State :=
  if s.silenceFalls then s.setFollower { s.follower with mode := .lead, matchCount := 0 } else s

def execSilenceFall (s : State) : Result := .next (s.live State.takeSilenceFall)

/-! ### Freeze entry (R56, R95) -/

/-- A fermata row past the last freeze position whose predicted time is reached (R56). -/
def State.fermataReached (s : State) (r : RowNumber) : Bool :=
  decide (s.cues[r].rowState ≠ .empty) && s.cues[r].fermata
    && decide (s.follower.lastFreeze < (s.cues[r].position : Int))
    && s.follower.reached s.cues[r].position 0

/-- Of two rows, the one of lower position; the first on a tie. -/
def State.lower (s : State) (best : Option RowNumber) (r : RowNumber) : Option RowNumber :=
  match best with
  | none => some r
  | some b => if s.cues[r].position < s.cues[b].position then some r else some b

/-- The row that freezes: in LEAD or FOLLOW, of the fermata rows reached the one of lowest position (R56). -/
def State.freezeRow (s : State) : Option RowNumber :=
  if s.follower.mode.running then (allRows.filter s.fermataReached).foldl s.lower none else none

/-- A running mode as the state before the freeze (R56, R94). -/
def Mode.asRunning : Mode → Running
  | .follow => .follow
  | .lead => .lead
  | .idle => .lead
  | .countIn => .lead
  | .freeze => .lead
  | .starved => .lead

/-- A GATED row after the freeze position loses its arm time at freeze entry (R95). -/
def CueRow.disarmAfter (c : CueRow) (f : Nat) : CueRow :=
  if c.rowState = .gated ∧ f < c.position then { c with armed := none } else c

/-- FREEZE entered on a row (R56, R95). -/
def State.freezeOn (s : State) (r : RowNumber) : State :=
  let q := s.cues[r].position
  { s with
    cues := s.cues.map fun c => c.disarmAfter q
    follower := { s.follower with
      mode := .freeze
      freeze := some { position := q, start := s.deviceTime, before := s.follower.mode.asRunning }
      lastFreeze := (q : Int) } }

def State.takeFreezeEntry (s : State) : State :=
  match s.freezeRow with
  | some r => s.freezeOn r
  | none => s

def execFreezeEntry (s : State) : Result := .next (s.live State.takeFreezeEntry)

/-! ### Starvation entry (R59) -/

/-- LEAD or FOLLOW, nothing PENDING or GATED on the list, and device time past p(r) plus the starve limit (R59). -/
def State.starves (s : State) : Bool :=
  s.follower.mode.running && !s.waiting
    && s.follower.passed s.follower.horizon s.follower.starveLimit

/-- The follower's record at starvation entry (R59). -/
def Follower.starve (f : Follower) : Follower :=
  { f with mode := .starved, matchCount := 0, lastFreeze := max f.lastFreeze (f.horizon : Int) }

def State.takeStarvationEntry (s : State) : State :=
  if s.starves then
    (forDivisions State.quiet (s.setFollower s.follower.starve)).setFlag .starved
  else s

def execStarvationEntry (s : State) : Result := .next (s.live State.takeStarvationEntry)

end Sys2Proof.Machine
end

