-- ==== Sys2Proof/Machine/Gates.lean ====
section
/-!
DEFINITION. Gates and the ends of a freeze that are not onsets (05).
Meanings: GATE, ARM, GATE_SOUND_EXPIRY, GATE_DROP_EXPIRY, FERMATA_EXPIRY.
-/

namespace Sys2Proof.Machine

/-! ### GATE (R86, R87, R93, R97) -/

/-- A gate opened with the clock re-anchored at now on its row (R87, R89, R93). -/
def State.openGateNow (s : State) (r : RowNumber) : State := (s.openRow r).anchorOn r s.deviceTime

/-- The freeze exit by GATE, after the row is opened and the clock re-anchored: the previous update position, the state
before the freeze, and the engagement of R54 on a return to LEAD (R97, log 19). -/
def Follower.thawByGate (f : Follower) (q : Nat) (before : Running) : Follower :=
  { f with prevUpdate := some q, freeze := none, mode := before.mode }.engage

/-- GATE by follower state (R86). A re-anchor ends with the arming of the next GATED row it has reached (R83). -/
def State.gate (s : State) : State :=
  match s.follower.mode with
  | .lead =>
    match s.earliestGated with
    | some r => (s.openGateNow r).armReached
    | none => s.refuse
  | .follow =>
    match s.earliestGated with
    | some r => (s.openGateNow r).armReached
    | none => s.refuse
  | .freeze =>
    match s.earliestGated, s.follower.freeze with
    | some r, some z =>
      let s1 := s.openGateNow r
      if s.cues[r].position ≤ z.position then s1.armReached
      else (s1.setFollower (s1.follower.thawByGate s.cues[r].position z.before)).armReached
    | _, _ => s.refuse
  | .idle => s.refuse
  | .countIn => s.refuse
  | .starved => s.refuse

def State.takeGate (s : State) : State :=
  match s.handed with
  | .gate :: rest => { s with handed := rest }.gate
  | _ => s

def execGate (s : State) : Result := .next (s.live State.takeGate)

/-! ### Arming (R83) -/

/-- ARM: the clock has run to the row's time, or an event that does not re-anchor has met the last condition (R83). -/
def execArm (s : State) : Result := .next (s.live State.armReached)

/-! ### Gate expiry (R84, R89, R90) -/

/-- The armed row of gate mode `m` whose gate deadline device time has passed (R84): the armed row is the earliest
GATED row (R83). -/
def State.expiredGate (s : State) (m : GateMode) : Option RowNumber :=
  match s.earliestGated with
  | some r =>
    match s.cues[r].armed with
    | some t =>
      if s.cues[r].gateMode = m ∧ s.deadlinePassed t s.follower.gateLimit = true then some r else none
    | none => none
  | none => none

/-- The count and flag of a gate expiry (R89, R90). -/
def State.noteGateExpiry (s : State) : State := (s.raise Counter.gateExpiries).setFlag .gateExpired

def State.takeGateSoundExpiry (s : State) : State :=
  match s.expiredGate .sound with
  | some r => (s.noteGateExpiry.openGateNow r).armReached
  | none => s

def execGateSoundExpiry (s : State) : Result := .next (s.live State.takeGateSoundExpiry)

/-- A row dropped: EMPTY, off the list, the clock re-anchored at now on its position (R90). -/
def State.dropRow (s : State) (r : RowNumber) : State :=
  ({ s.setRow r s.cues[r].emptied with rol := s.rol.erase r }).anchorOn r s.deviceTime

def State.takeGateDropExpiry (s : State) : State :=
  match s.expiredGate .drop with
  | some r => (s.noteGateExpiry.dropRow r).armReached
  | none => s

def execGateDropExpiry (s : State) : Result := .next (s.live State.takeGateDropExpiry)

/-! ### Fermata expiry (R98) -/

/-- The freeze record whose fermata limit device time has passed (R94, R98). -/
def State.expiredFreeze (s : State) : Option FreezeRecord :=
  match s.follower.freeze with
  | some z =>
    if s.follower.mode = .freeze ∧ s.deadlinePassed z.start s.follower.fermataLimit = true then some z
    else none
  | none => none

/-- The position a fermata expiry anchors on: the first row after the freeze position, or the freeze position + 1 (R98).
DESIGN CHOICE (log 22): R98 reads the list at the moment of the expiry, so an expiry before a chord is placed anchors on the
freeze position + 1 and one after it may anchor on a placed row; R99's row for the two has its outcomes the other way round. -/
def State.thawPosition (s : State) (z : FreezeRecord) : Nat :=
  match s.firstAfter z.position with
  | some r => s.cues[r].position
  | none => z.position + 1

/-- The follower's record at a fermata expiry (R98). -/
def Follower.thawByExpiry (f : Follower) (now : Time) (q : Nat) : Follower :=
  { f.anchor now now q with prevUpdate := some q, matchCount := 0, freeze := none, mode := .lead }

def State.takeFermataExpiry (s : State) : State :=
  match s.expiredFreeze with
  | some z => (s.setFollower (s.follower.thawByExpiry s.deviceTime (s.thawPosition z))).armReached
  | none => s

def execFermataExpiry (s : State) : Result := .next (s.live State.takeFermataExpiry)

end Sys2Proof.Machine
end

