-- ==== Sys2Proof/Machine/Onsets.lean ====
section
/-!
DEFINITION. The Onset Matcher (04) and the exits of a freeze and of starvation by onset (R96, R101). Meaning: ONSET.
-/

namespace Sys2Proof.Machine

/-- The delay of a loft as stored (R63). -/
def State.delay (s : State) (l : Loft) : Nat :=
  match l with
  | .east => loftDelay s.tables.loft[0]
  | .west => loftDelay s.tables.loft[1]

/-- The adjusted time of an onset decoded now (R63). -/
def State.adjustedTime (s : State) (r : Value6) : Time :=
  s.deviceTime - BitVec.ofNat 24 (onsetOffset r + s.delay (onsetLoft r))

/-- The age of a time near now: the anchor age less the signed difference now − u (R44, R63). -/
def State.ageOf (s : State) (u : Time) : Int := s.follower.age - Time.diff s.deviceTime u

/-- The signed distance t − p(q) of an adjusted time from a row (R63). -/
def State.distance (s : State) (t : Time) (r : RowNumber) : Int :=
  s.ageOf t - s.follower.offset s.cues[r].position

/-- Whether the active profile makes an onset of this loft a lead onset (R65). -/
def LeadLoft.admits : LeadLoft → Loft → Bool
  | .either, _ => true
  | .east, .east => true
  | .west, .west => true
  | .east, .west => false
  | .west, .east => false

/-! ### Candidates (R66, R67, R76) -/

/-- Condition 3: the row's state and its window; a GATED row only at the head of the list, with no late bound (R66). -/
def State.inWindow (s : State) (t : Time) (r : RowNumber) : Bool :=
  match s.cues[r].rowState with
  | .pending => decide ((s.distance t r).natAbs ≤ s.follower.window)
  | .releasing => decide ((s.distance t r).natAbs ≤ s.follower.window)
  | .listen => decide ((s.distance t r).natAbs ≤ s.follower.window)
  | .gated => decide (-(s.follower.window : Int) ≤ s.distance t r) && decide (s.rol.head? = some r)
  | .empty => false

/-- Whether a row is a candidate for an onset of loft `l` with adjusted time `t` (R66). -/
def State.candidate (s : State) (l : Loft) (t : Time) (r : RowNumber) : Bool :=
  s.cues[r].awaits l && s.inWindow t r && !decide (r ∈ s.behindGate)

/-- The nearer of two candidates, by distance and then by lower position (R67). -/
def State.nearer (s : State) (t : Time) (best : Option RowNumber) (r : RowNumber) : Option RowNumber :=
  match best with
  | none => some r
  | some b =>
    if (s.distance t r).natAbs < (s.distance t b).natAbs
        ∨ ((s.distance t r).natAbs = (s.distance t b).natAbs ∧ s.cues[r].position < s.cues[b].position)
    then some r else some b

/-- The chosen candidate of LEAD and FOLLOW (R66, R67). -/
def State.choose (s : State) (l : Loft) (t : Time) : Option RowNumber :=
  (allRows.filter (s.candidate l t)).foldl (s.nearer t) none

/-- The chosen windowed candidate of FREEZE: at or before the freeze position (R76). -/
def State.chooseFrozen (s : State) (l : Loft) (t : Time) (f : Nat) : Option RowNumber :=
  ((allRows.filter (s.candidate l t)).filter fun r => decide (s.cues[r].position ≤ f)).foldl (s.nearer t) none

/-- The first row among `rows` that carries the syllable flag and no match mark of the loft (R77, R79). -/
def State.firstAwaiting (s : State) (l : Loft) (rows : List RowNumber) : Option RowNumber :=
  rows.find? fun r => s.cues[r].awaits l

/-- The freeze exit candidate among the rows on the list after the freeze position: the first syllable row if the loft
has not marked it. If it has, R77 gives the first one it has not and R78 none: the free constant decides (log 10). -/
def State.freezeExit (s : State) (l : Loft) (f : Nat) : Option RowNumber :=
  let rows := s.rol.filter fun r => decide (f < s.cues[r].position)
  match rows.find? fun r => s.cues[r].syllable with
  | none => none
  | some r =>
    if s.cues[r].awaits l || Config.freezeExitPassesMarkedRows then s.firstAwaiting l rows else none

/-- The starvation exit candidate: the first row on the list that awaits the loft; marked rows are passed over (R79). -/
def State.starvationExit (s : State) (l : Loft) : Option RowNumber := s.firstAwaiting l s.rol

/-! ### Tempo correction (R72 to R75) -/

/-- The period after a period step with error `e` over `dq` positions (R74). -/
def Follower.steppedPeriod (f : Follower) (e dq : Int) : Nat :=
  let limit : Int := (f.period / 8 : Nat)
  let raw := Int.tdiv (4 * e * (f.profile.beta : Int)) dq
  let step := max (-limit) (min raw limit)
  clamp f.profile.pmin f.profile.pmax ((f.period : Int) + step).toNat

/-- The period of a correction at position `m` with error `e`: stepped in FOLLOW when Δq is at least 2 (R74).
With no previous update position there is no Δq and no step (log 11). -/
def Follower.correctedPeriod (f : Follower) (m : Nat) (e : Int) : Nat :=
  match f.mode, f.prevUpdate with
  | .follow, some u => if u + 2 ≤ m then f.steppedPeriod e ((m : Int) - (u : Int)) else f.period
  | _, _ => f.period

/-- Phase, period, bookkeeping and engagement of a tempo correction (R73, R74, R75). -/
def Follower.correct (f : Follower) (now t : Time) (m : Nat) (e : Int) : Follower :=
  { (f.anchor now (f.predicted m + BitVec.ofInt 24 (Int.tdiv (e * (f.profile.alpha : Int)) 16)) m).countMatch with
    period := f.correctedPeriod m e
    prevUpdate := some m
    lastMatch := t }.engage

/-- A gate opened by a lead onset at adjusted time `t`, on position `q`: the clock passes through the onset (R85). -/
def Follower.openByOnset (f : Follower) (now t : Time) (q : Nat) : Follower :=
  { (f.anchor now t q).countMatch with prevUpdate := some q, lastMatch := t }.engage

/-- The end of a freeze or of starvation by a lead onset, back to `mode` (R96, R101). -/
def Follower.exitByOnset (f : Follower) (now t : Time) (q : Nat) (mode : Mode) : Follower :=
  { f.anchor now t q with
    prevUpdate := some q, matchCount := 1, lastMatch := t, freeze := none, mode := mode }.engage

/-! ### Outcomes (R64, R70, R71, R76 to R79) -/

/-- An unmatched onset in LEAD, FOLLOW or STARVED: counter 11, and a lead onset zeroes the match count (R71). -/
def State.unmatched (s : State) (lead : Bool) : State :=
  let s1 := s.raise Counter.unmatchedOnsets
  if lead then s1.setFollower { s1.follower with matchCount := 0 } else s1

/-- Marks and counter 9 of an onset that moves the clock (R68, R69, R70). -/
def State.leadMatch (s : State) (r : RowNumber) (l : Loft) : State :=
  ((s.matchMark r l).updateMark r).raise Counter.leadMatches

/-- An onset that only marks its row (R70, R76). -/
def State.markOnly (s : State) (r : RowNumber) (l : Loft) : State :=
  (s.matchMark r l).raise Counter.otherMatches

/-- A match in LEAD or FOLLOW (R70). A re-anchor arms a GATED row it has reached (R83). -/
def State.matchRunning (s : State) (lead : Bool) (l : Loft) (t : Time) (r : RowNumber) : State :=
  if lead then
    if s.cues[r].rowState = .gated then
      (((s.leadMatch r l).openRow r).setFollower
        (s.follower.openByOnset s.deviceTime t s.cues[r].position)).armReached
    else if s.updateMarks[r] then s.markOnly r l
    else ((s.leadMatch r l).setFollower
      (s.follower.correct s.deviceTime t s.cues[r].position (s.distance t r))).armReached
  else s.markOnly r l

/-- A lead onset takes an exit candidate: marks, counter 9, the row opened if GATED, the wait ended (R96, R101). -/
def State.exitOn (s : State) (l : Loft) (t : Time) (r : RowNumber) (mode : Mode) : State :=
  (((s.leadMatch r l).openRow r).setFollower
    (s.follower.exitByOnset s.deviceTime t s.cues[r].position mode)).armReached

/-- An onset in LEAD or FOLLOW (R66 to R71). -/
def State.onsetRunning (s : State) (lead : Bool) (l : Loft) (t : Time) : State :=
  match s.choose l t with
  | some r => s.matchRunning lead l t r
  | none => s.unmatched lead

/-- An onset in FREEZE (R76 to R78). -/
def State.onsetFrozen (s : State) (z : FreezeRecord) (lead : Bool) (l : Loft) (t : Time) : State :=
  match s.chooseFrozen l t z.position with
  | some r => s.markOnly r l
  | none =>
    if lead then
      match s.freezeExit l z.position with
      | some r => s.exitOn l t r z.before.mode
      | none => s.raise Counter.unmatchedOnsets
    else s.raise Counter.unmatchedOnsets

/-- An onset in STARVED (R79). -/
def State.onsetStarved (s : State) (lead : Bool) (l : Loft) (t : Time) : State :=
  if lead then
    match s.starvationExit l with
    | some r => s.exitOn l t r .lead
    | none => s.unmatched true
  else s.unmatched false

/-- An onset record screened and matched by follower state (R64). -/
def State.takeOnset (s : State) (rec : Value6) : State :=
  let l := onsetLoft rec
  let t := s.adjustedTime rec
  let lead := s.follower.profile.leadLoft.admits l
  if s.follower.mode = .idle then s
  else if onsetStrength rec < s.follower.profile.minStrength then s
  else match s.follower.mode with
    | .idle => s
    | .countIn => s.raise Counter.unmatchedOnsets
    | .lead => s.onsetRunning lead l t
    | .follow => s.onsetRunning lead l t
    | .freeze => match s.follower.freeze with
      | some z => s.onsetFrozen z lead l t
      | none => s
    | .starved => s.onsetStarved lead l t

/-- An ONSET frame decoded in LOCKED is handed to the matcher at its decode time (R14, R62). -/
def execOnset (rec : Value6) (s : State) : Result := .next (s.decoded fun s => s.takeOnset rec)

end Sys2Proof.Machine
end

