-- ==== Sys2Proof/Machine/Releases.lean ====
section
/-!
DEFINITION. The Release Scheduler (06). Meanings: RELEASE, HELD_RELEASE_OFFER.
-/

namespace Sys2Proof.Machine

/-- Lead time of a division as stored (R105). -/
def State.lead (s : State) (d : Division) : Nat := s.tables.division[d].lead

/-- The row due to a division (R106): in LEAD, FOLLOW or FREEZE the earliest row lacking its mark, if that row is not
GATED, its predicted time is defined and device time has reached its release time p(q) − lead. -/
def State.dueRow (s : State) (d : Division) : Option RowNumber :=
  match s.earliestUnreleased d with
  | some r =>
    if s.follower.mode.playing && s.follower.defines s.cues[r].position
        && decide (s.cues[r].rowState ≠ .gated)
        && s.follower.reached s.cues[r].position (-(s.lead d : Int)) then some r
    else none
  | none => none

/-- The release a division can take: its due row, while it holds no release (R107). -/
def State.releaseRow (s : State) (d : Division) : Option RowNumber :=
  if s.held[d].isNone then s.dueRow d else none

/-- Whether a run fits: no ALL-OFF owed, and free slots at least its length (R110). -/
def Port.fits (p : Port) (run : List ValveWord) : Bool :=
  !p.owedAllOff && decide (run.length ≤ p.freeSlots)

/-- A release entering now is late: past its release time plus W, p(q) defined (R116). -/
def State.late (s : State) (d : Division) (r : RowNumber) : Bool :=
  s.follower.defines s.cues[r].position
    && s.follower.passed s.cues[r].position ((s.follower.window : Int) - (s.lead d : Int))

/-- Counter 12 rises for a late release (R116). -/
def State.noteLate (s : State) (late : Bool) : State := if late then s.raise Counter.lateReleases else s

/-- A run enters whole at the queue's tail (R110, R148). -/
def Port.enqueue (p : Port) (run : List ValveWord) : Port := { p with queue := p.queue ++ run }

/-- A release enters: the record, the words, the mark, the late count, in one event (R110, R112). -/
def State.enterRelease (s : State) (d : Division) (r : RowNumber) : State :=
  let s1 := s.applyCue d r
  let s2 := s1.setPort d (s1.ports[d].enqueue (s.computeCue d r).run)
  (s2.markReleased d r).noteLate (s.late d r)

/-- A release is held and the port becomes WAITING from now (R111, R150). -/
def State.hold (s : State) (d : Division) (r : RowNumber) : State :=
  (s.setHeld d (some r)).setPort d
    { s.ports[d] with state := .waiting, waitingSince := some s.deviceTime, offerDue := false }

/-- A release against a STALLED port: applied without words, marked (R109). -/
def State.releaseUnheard (s : State) (d : Division) (r : RowNumber) : State :=
  (s.applyCue d r).markReleased d r

/-- A release of row `r` to division `d` by port state (R108 to R111). A WAITING port holds a release and takes none (R104, R107). -/
def State.releaseTo (s : State) (d : Division) (r : RowNumber) : State :=
  match s.ports[d].state with
  | .off => s.markReleased d r
  | .stalled => s.releaseUnheard d r
  | .active =>
    if s.ports[d].fits (s.computeCue d r).run then s.enterRelease d r else s.hold d r
  | .waiting => s

/-- RELEASE: the division's due row is released (R107). -/
def State.takeRelease (s : State) (d : Division) : State :=
  match s.releaseRow d with
  | some r => s.releaseTo d r
  | none => s

def execRelease (d : Division) (s : State) : Result := .next (s.live fun s => s.takeRelease d)

/-! ### Held releases (R112) -/

/-- The held release to be offered: the port WAITING and changed since the last offer (R112). -/
def State.offerRow (s : State) (d : Division) : Option RowNumber :=
  if s.ports[d].offerDue && decide (s.ports[d].state = .waiting) then s.held[d] else none

/-- The offer is made (R112, log 6). -/
def Port.offered (p : Port) : Port := { p with offerDue := false }

/-- HELD_RELEASE_OFFER: the run computed afresh enters if it fits, and the port returns to ACTIVE (R112). -/
def State.takeOffer (s : State) (d : Division) : State :=
  match s.offerRow d with
  | some r =>
    if s.ports[d].fits (s.computeCue d r).run then (s.enterRelease d r).withdraw d
    else s.setPort d s.ports[d].offered
  | none => s

def execHeldReleaseOffer (d : Division) (s : State) : Result := .next (s.live fun s => s.takeOffer d)

end Sys2Proof.Machine
end

