-- ==== Sys2Proof/Machine/ChestPorts.lean ====
section
/-!
DEFINITION. The chest ports (08).
Meanings: ALL_OFF_ENTRY, WORD_LEAVING, CREDIT, STALL, CHEST_SYNC, RECEIVE_LOCK_LOSS, FLUSH.
-/

namespace Sys2Proof.Machine

/-- ALL_OFF_ENTRY (R149). -/
def execAllOffEntry (d : Division) (s : State) : Result := .next (s.live (State.enterAllOff d))

/-! ### The frame of a slot (R144) -/

/-- Device time mod 32. -/
def State.slot (s : State) : Nat := s.deviceTime.toNat % 32

/-- The frame of the present slot on a line. -/
def Line.send (l : Line) (f : OutFrame) : Line := { l with now := some f }

/-- Whether a word may begin: ACTIVE or WAITING, a word queued, a credit held (R144 rule 3, less the slot). -/
def Port.wordReady (p : Port) : Bool :=
  (decide (p.state = .active) || decide (p.state = .waiting)) && !p.queue.isEmpty && decide (1 ≤ p.credits)

/-- The head word begins: it leaves the queue against a credit, its first half is the frame, its second half the word in
transmission, and in WAITING the held release is to be offered (R112, R144). -/
def Port.beginWord (p : Port) : Port :=
  match p.queue with
  | [] => p
  | w :: rest => Port.noteChange { p with
      queue := rest
      credits := p.credits - 1
      transmission := some w.secondHalf
      line := p.line.send (.data w.firstHalf) }

/-- The port's choice of the frame of slot `slot` (R144 rules 1 to 4). -/
def Port.chooseFrame (p : Port) (slot : Nat) : Port :=
  if slot = 0 then { p with line := p.line.send .sync }
  else match p.transmission with
    | some h => { p with transmission := none, line := p.line.send (.data h) }
    | none =>
      if p.wordReady && decide (slot ≠ 31) then p.beginWord
      else { p with line := p.line.send .fill }

/-- The choice is made once in each slot (R144). -/
def Port.fillSlot (p : Port) (slot : Nat) : Port :=
  if p.line.now.isNone then p.chooseFrame slot else p

def State.fillChestSlot (d : Division) (s : State) : State :=
  s.setPort d (s.ports[d].fillSlot s.slot)

/-- WORD_LEAVING: the port's choice for the present slot, by which its head word begins if rule 3 holds (R144, log 4). -/
def execWordLeaving (d : Division) (s : State) : Result := .next (s.live (State.fillChestSlot d))

/-! ### Credits (R146, R147, R152) -/

/-- A credit arrival in ACTIVE or WAITING, saturating at 6 (R146, R147). -/
def State.addCredit (s : State) (d : Division) (n : Nat) : State :=
  if s.ports[d].credits + n ≤ Config.creditLimit then
    s.setPort d { s.ports[d] with credits := s.ports[d].credits + n }
  else
    ((s.setPort d { s.ports[d] with credits := Config.creditLimit }).raise
      Counter.creditOverflows).setFlag .creditOverflow

/-- Stall recovery: ACTIVE with `n` credits, the queue emptied, the division silenced (R152). -/
def State.recover (s : State) (d : Division) (n : Nat) : State :=
  (s.setPort d { s.ports[d] with state := .active, credits := n, queue := [] }).silence d

/-- CREDIT n by port state; a value outside 1..6 is no CREDIT and is discarded (R145, R146). -/
def State.takeCredit (s : State) (d : Division) (v : Value6) : State :=
  if s.ports[d].rx.aligned.isNone ∨ v.toNat = 0 ∨ 6 < v.toNat then s
  else match s.ports[d].state with
    | .off => s
    | .active => s.addCredit d v.toNat
    | .waiting => s.addCredit d v.toNat
    | .stalled => s.recover d v.toNat

def execCredit (d : Division) (v : Value6) (s : State) : Result := .next (s.live fun s => s.takeCredit d v)

/-! ### Stalls (R151) -/

/-- A WAITING port whose stall limit device time has passed (R151). -/
def State.stallsNow (s : State) (d : Division) : Bool :=
  decide (s.ports[d].state = .waiting) && (match s.ports[d].waitingSince with
    | some t => s.deadlinePassed t s.tables.division[d].stallLimit
    | none => false)

/-- A stalled port: no queue, no credits, no waiting-since time; a word in transmission completes (R151). -/
def Port.stalled (p : Port) : Port :=
  { p with state := .stalled, queue := [], credits := 0, waitingSince := none, offerDue := false }

/-- The held release applied without words and marked (R109, R113, R151). -/
def State.applyHeld (s : State) (d : Division) : State :=
  match s.held[d] with
  | some r => (s.releaseUnheard d r).setHeld d none
  | none => s

/-- The stall of a port (R151). -/
def State.stallPort (s : State) (d : Division) : State :=
  (((s.setPort d s.ports[d].stalled).applyHeld d).raise Counter.divisionStalls).setFlag .stall

/-- STALL, once the stall limit has passed: an offer that a word's leaving or the ALL-OFF's entry has made due comes first,
and a port whose held run then enters does not stall (R112, R157, log 6); any other stalls (R151). -/
def State.takeStall (s : State) (d : Division) : State :=
  if s.stallsNow d then
    let offered := s.takeOffer d
    if offered.stallsNow d then offered.stallPort d else offered
  else s

def execStall (d : Division) (s : State) : Result := .next (s.live fun s => s.takeStall d)

/-! ### Receive lock (R145) -/

def State.takeChestSync (s : State) (d : Division) (a : Alignment) : State :=
  s.setPort d { s.ports[d] with
    rx := s.ports[d].rx.countSync Config.chestLockCount s.deviceTime a }

/-- CHEST_SYNC: counted, taking, keeping or losing the receive lock (R145, log 7). -/
def execChestSync (d : Division) (a : Alignment) (s : State) : Result :=
  .next (s.live fun s => s.takeChestSync d a)

def State.takeReceiveLockLoss (s : State) (d : Division) : State :=
  if s.ports[d].rx.timedOut s.deviceTime then
    s.setPort d { s.ports[d] with rx := s.ports[d].rx.lost }
  else s

/-- RECEIVE_LOCK_LOSS: the 48-frame-time limit, without count (R145). -/
def execReceiveLockLoss (d : Division) (s : State) : Result :=
  .next (s.live fun s => s.takeReceiveLockLoss d)

/-! ### FLUSH (R153) -/

/-- A flushed port before its silencing: queue emptied, credits 0, ACTIVE; a word in transmission completes (R153). -/
def Port.flushed (p : Port) : Port :=
  { p with state := .active, queue := [], credits := 0, waitingSince := none, offerDue := false }

/-- FLUSH at one named port that is not OFF (R113, R153). -/
def State.flushPort (d : Division) (s : State) : State :=
  if s.ports[d].state = .off then s
  else ((s.setHeld d none).setPort d s.ports[d].flushed).silence d

/-- FLUSH: refused with any of bits 11..4 set, else each named division in turn (R153). -/
def State.flush (s : State) (p : Data12) : State :=
  if field p 4 8 = 0 then
    forDivisions (fun d s => if bit p d.val then s.flushPort d else s) s
  else s.refuse

def State.takeFlush (s : State) : State :=
  match s.handed with
  | .flush p :: rest => { s with handed := rest }.flush p
  | _ => s

def execFlush (s : State) : Result := .next (s.live State.takeFlush)

end Sys2Proof.Machine
end

