-- ==== Sys2Proof/Machine/Tables.lean ====
section
/-!
DEFINITION. The Table Store: checking and writing a whole row, and what a division row does to its port and its releases
(09; R154, R155, R163). Meaning: DATA.
-/

namespace Sys2Proof.Machine

/-- An invalid row is refused: counter 17, and nothing else (R159). -/
def State.refuseRow (s : State) : State := s.raise Counter.loadRefusals

/-- The port of a disabled division: OFF, queue emptied, credits 0, nothing owed; a word in transmission completes (R154). -/
def Port.disabled (p : Port) : Port :=
  { p with state := .off, queue := [], credits := 0, owedAllOff := false, waitingSince := none, offerDue := false }

/-- The port of an enabled division before its silencing: ACTIVE, empty, no credits, nothing in transmission (R155). -/
def Port.enabled (p : Port) : Port :=
  { p with state := .active, queue := [], credits := 0, waitingSince := none, transmission := none, offerDue := false }

/-- A held release leaves with its mark set and no words: against an OFF port under R108. -/
def State.markHeld (d : Division) (s : State) : State :=
  match s.held[d] with
  | none => s
  | some r => (s.markReleased d r).setHeld d none

/-- Disabling a division (R154). -/
def State.disable (d : Division) (s : State) : State :=
  let s := s.markHeld d
  s.setPort d s.ports[d].disabled

/-- Enabling a division (R155). -/
def State.enable (d : Division) (s : State) : State :=
  (s.setPort d s.ports[d].enabled).silence d

/-- The row replaces the stored row (R159). -/
def State.storeDivision (s : State) (d : Division) (row : DivisionRow) : State :=
  { s with tables := { s.tables with division := s.tables.division.set d row } }

/-- The port change of a division row, if its enable changes the port (R154, R155, R163). -/
def State.changePort (s : State) (d : Division) (enabled : Bool) : State :=
  if enabled then
    if s.ports[d].state = .off then s.enable d else s
  else
    if s.ports[d].state = .off then s else s.disable d

/-- The division's due rows released in list order, each a release of its own, until none is due or one is held: at most one
for each row on the list (R107, R122). -/
def State.releaseDue (s : State) (d : Division) : State := s.rol.foldl (fun t _ => t.takeRelease d) s

/-- A lowered stall limit stalls a port that has waited longer, at once (R151, R163). -/
def State.lowerStallLimit (s : State) (d : Division) (old new : DivisionRow) : State :=
  if new.stallLimit < old.stallLimit then s.takeStall d else s

/-- A changed lead judges the division's release times afresh, and its due rows are taken (R122, R163, log 23). -/
def State.changeLead (s : State) (d : Division) (old new : DivisionRow) : State :=
  if new.lead = old.lead then s else s.releaseDue d

/-- A valid division row takes effect whole, in one event: the stored row, then the port change, so that what follows meets the
port as the enable left it, then the stall of a lowered stall limit and the due rows of a changed lead (R163). -/
def State.writeDivision (s : State) (d : Division) (row : DivisionRow) : State :=
  let old := s.tables.division[d]
  (((s.storeDivision d row).changePort d row.enabled).lowerStallLimit d old row).changeLead d old row

/-- A row handed whole to the Table Store: checked, and written or refused (R159 to R166).
Rows and words outside the table's shape never arrive (R18, R20). -/
def State.storeRow (s : State) (table : BitVec 4) (row : Nat) (words : List Data12) : State :=
  match table.toNat, words with
  | 0, [w0, w1] =>
    let r : ControlRow := ⟨w0, w1⟩
    if r.valid then { s with tables := { s.tables with control := r } } else s.refuseRow
  | 1, [w0] =>
    if h : row < 2 then
      if loftValid w0 then { s with tables := { s.tables with loft := s.tables.loft.set row w0 } }
      else s.refuseRow
    else s
  | 2, [w0, w1, w2] =>
    if h : row < 4 then
      let r : DivisionRow := ⟨w0, w1, w2⟩
      if r.valid then s.writeDivision ⟨row, h⟩ r else s.refuseRow
    else s
  | 3, [w0, w1, w2, w3, w4] =>
    if h : row < 8 then
      let r : ProfileRow := ⟨w0, w1, w2, w3, w4⟩
      if r.valid then { s with tables := { s.tables with profile := s.tables.profile.set row r } }
      else s.refuseRow
    else s
  | 4, [w0, w1, w2] =>
    if h : row < 64 then
      let r : RegistrationRow := ⟨w0, w1, w2⟩
      if r.valid then
        { s with tables := { s.tables with registration := s.tables.registration.set row r } }
      else s.refuseRow
    else s
  | _, _ => s

/-! ### DATA (R14, R18, R20) -/

/-- A word of an open LOAD stream (R18, R20). -/
def State.tableWord (s : State) (l : LoadStream) (w : Data12) : State :=
  if l.acting then
    match tableShape l.table with
    | none => s
    | some (rows, words) =>
      if rows ≤ l.nextRow then
        { s.raise Counter.loadRefusals with assembly := .streaming { l with acting := false } }
      else if l.staged.length + 1 < words then
        { s with assembly := .streaming { l with staged := l.staged ++ [w] } }
      else
        { s.storeRow l.table l.nextRow (l.staged ++ [w]) with
          assembly := .streaming { l with nextRow := l.nextRow + 1, staged := [] } }
  else s

/-- A DATA frame (R14). -/
def State.takeData (s : State) (w : Data12) : State :=
  match s.assembly with
  | .ready => s.raise Counter.unexpectedData
  | .assembling m => s.assemble { m with payloads := m.payloads ++ [w] }
  | .streaming l => s.tableWord l w

def execData (w : Data12) (s : State) : Result := .next (s.decoded fun s => s.openLoad.takeData w)

end Sys2Proof.Machine
end

