-- ==== Sys2Proof/Machine/ReturnLane.lean ====
section
/-!
DEFINITION. The return lane, READ and CLEAR (10). Meanings: READ, CLEAR, BEACON, RESPONSE_COMPLETE.
-/

namespace Sys2Proof.Machine

/-- A flag as one bit of a number. -/
def flagAt (b : Bool) (i : Nat) : Nat := if b then 2 ^ i else 0

/-- Two frames: the number ÷ 4096 and mod 4096 (R173). -/
def twoWords (n : Nat) : List Data12 := [BitVec.ofNat 12 (n / 4096), BitVec.ofNat 12 (n % 4096)]

/-! ### Codes (R171, R173) -/

def Mode.code : Mode → Nat
  | .idle => 0
  | .countIn => 1
  | .lead => 2
  | .follow => 3
  | .freeze => 4
  | .starved => 5

def RowState.code : RowState → Nat
  | .empty => 0
  | .pending => 1
  | .gated => 2
  | .releasing => 3
  | .listen => 4

def Origin.code : Origin → Nat
  | .normal => 0
  | .flipped => 1
  | .foreign => 2

def GateMode.code : GateMode → Nat
  | .none => 0
  | .sound => 1
  | .drop => 2

def PortState.code : PortState → Nat
  | .off => 0
  | .active => 1
  | .waiting => 2
  | .stalled => 3

/-! ### Responses (R173) -/

/-- The stored words of a row of tables 0..4, or none past the table's end. -/
def Tables.words (t : Tables) (table row : Nat) : Option (List Data12) :=
  match table with
  | 0 => if row = 0 then some [t.control.w0, t.control.w1] else none
  | 1 => if h : row < 2 then some [t.loft[row]] else none
  | 2 => if h : row < 4 then
      let r := t.division[row]
      some [r.w0, r.w1, r.w2]
    else none
  | 3 => if h : row < 8 then
      let r := t.profile[row]
      some [r.w0, r.w1, r.w2, r.w3, r.w4]
    else none
  | 4 => if h : row < 64 then
      let r := t.registration[row]
      some [r.w0, r.w1, r.w2]
    else none
  | _ => none

/-- Target 5: the follower. -/
def Follower.words (f : Follower) : List Data12 :=
  [BitVec.ofNat 12 (f.mode.code * 512 + f.matchCount * 64 + flagAt f.freeze.isSome 5)]
    ++ twoWords f.period ++ twoWords f.ta.toNat ++ twoWords f.ba
    ++ twoWords (match f.freeze with
      | some z => z.position
      | none => 0)

/-- Target 6: a Cue Table row. -/
def State.rowWords (s : State) (r : RowNumber) : List Data12 :=
  let c := s.cues[r]
  [BitVec.ofNat 12 (c.rowState.code * 512 + (rowOrigin r).code * 128 + c.gateMode.code * 32
      + flagAt c.syllable 4 + flagAt c.fermata 3 + flagAt c.armed.isSome 2
      + flagAt s.updateMarks[r] 1),
   BitVec.ofNat 12 (flagAt c.released[3] 11 + flagAt c.released[2] 10
      + flagAt c.released[1] 9 + flagAt c.released[0] 8 + flagAt c.westMark 7
      + flagAt c.eastMark 6 + c.position / 4096 * 16 + c.regSet.toNat),
   BitVec.ofNat 12 (c.position % 4096),
   c.voices.soprano ++ c.voices.alto,
   c.voices.tenor ++ c.voices.bass]
    ++ twoWords (match c.armed with
      | some t => t.toNat
      | none => 0)

/-- Target 7: four counters; in row 5 counter 20 and three zeros. -/
def State.counterWords (s : State) (row : Nat) : Option (List Data12) :=
  if h : row < 5 then
    some [s.counters[row * 4], s.counters[row * 4 + 1], s.counters[row * 4 + 2], s.counters[row * 4 + 3]]
  else if row = 5 then some [s.counters[20], 0, 0, 0]
  else none

/-- Target 8: a port and its division's current set. -/
def State.portWords (s : State) (d : Division) : List Data12 :=
  let p := s.ports[d]
  [BitVec.ofNat 12 (p.state.code * 1024 + p.queue.length * 64 + p.credits * 8 + flagAt p.owedAllOff 2),
   match s.divisions[d].currentSet with
   | some c => BitVec.ofNat 12 (16 + c.toNat)
   | none => 0]

/-- The DATA frames after D1 of a target and row, or none where the READ is refused (R172, R173). -/
def State.readWords (s : State) (target row : Nat) : Option (List Data12) :=
  match target with
  | 5 => if row = 0 then some s.follower.words else none
  | 6 => if h : row < 200 then some (s.rowWords ⟨row, h⟩) else none
  | 7 => s.counterWords row
  | 8 => if h : row < 4 then some (s.portWords ⟨row, h⟩) else none
  | 9 => if row = 0 then some [s.flags.setWidth 12] else none
  | t => s.tables.words t row

/-- The response to a target and row: a K3 header, D1 echoing the row, and the target's frames (R172, R173). -/
def responseOf (target row : Nat) (words : List Data12) : Response where
  frames := OutFrame.header (BitVec.ofNat 6 target) :: OutFrame.data (BitVec.ofNat 12 row)
    :: words.map OutFrame.data
  sent := 0

/-- READ: the whole response built at once, or refused with counter 18 (R172). -/
def State.read (s : State) (p : Data12) : State :=
  match s.response, s.readWords (field p 8 4) (field p 0 8) with
  | none, some words => { s with response := some (responseOf (field p 8 4) (field p 0 8) words) }
  | _, _ => s.raise Counter.readsRefused

def State.takeRead (s : State) : State :=
  match s.handed with
  | .read p :: rest => { s with handed := rest }.read p
  | _ => s

def execRead (s : State) : Result := .next (s.live State.takeRead)

/-! ### CLEAR (R176) -/

/-- Every counter 0. -/
def State.clearCounters (s : State) : State := { s with counters := Vector.replicate 21 0 }

/-- Every alert flag clear. -/
def State.clearFlags (s : State) : State := { s with flags := 0 }

def State.clear (s : State) (p : Data12) : State :=
  match p.toNat with
  | 1 => s.clearCounters
  | 2 => s.clearFlags
  | 3 => s.clearCounters.clearFlags
  | _ => s.refuse

def State.takeClear (s : State) : State :=
  match s.handed with
  | .clear p :: rest => { s with handed := rest }.clear p
  | _ => s

def execClear (s : State) : Result := .next (s.live State.takeClear)

/-! ### Beacons and the frame of a slot (R170, R171) -/

/-- Any chest port STALLED. -/
def State.anyStalled (s : State) : Bool :=
  decide (s.ports[0].state = .stalled) || decide (s.ports[1].state = .stalled)
    || decide (s.ports[2].state = .stalled) || decide (s.ports[3].state = .stalled)

/-- The value of a beacon's first frame (R171). -/
def State.beaconValue (s : State) : Value6 :=
  BitVec.ofNat 6 (s.follower.mode.code * 8 + flagAt s.nave.aligned.isSome 2
    + flagAt s.alertLow 1 + flagAt s.anyStalled 0)

/-- The DATA of a beacon's second frame (R171). -/
def State.beaconData (s : State) : Data12 :=
  BitVec.ofNat 12 (s.freeRows * 16 + s.rol.length / 16)

/-- The frame `f` is the present slot's frame on RET_OUT. -/
def State.sendReturn (s : State) (f : OutFrame) : State := { s with returnLine := s.returnLine.send f }

/-- The next frame of a response is sent; after the last the buffer is empty (R170 rule 3). -/
def State.sendResponse (s : State) (r : Response) : State :=
  match r.frames[r.sent]? with
  | some f => { s.sendReturn f with
      response := if r.sent + 1 < r.frames.length then some { r with sent := r.sent + 1 } else none }
  | none => { s.sendReturn .fill with response := none }

/-- The return lane's choice of the present slot's frame (R170 rules 1 to 5). -/
def State.chooseReturn (s : State) : State :=
  if s.slot = 0 then s.sendReturn .sync
  else match s.beaconHalf with
    | some w => { s.sendReturn (.data w) with beaconHalf := none }
    | none => match s.response with
      | some r => s.sendResponse r
      | none =>
        if s.slot = 31 then s.sendReturn .fill
        else { s.sendReturn (.beacon s.beaconValue) with beaconHalf := some s.beaconData }

/-- The choice is made once in each slot (R170). -/
def State.fillReturnSlot (s : State) : State :=
  if s.returnLine.now.isNone then s.chooseReturn else s

/-- BEACON: the return lane's choice when no response is due, by which a beacon begins if rule 4 holds (R170, R171, log 4). -/
def State.takeBeacon (s : State) : State := if s.response.isNone then s.fillReturnSlot else s

def execBeacon (s : State) : Result := .next (s.live State.takeBeacon)

/-- The present slot, not chosen yet, will carry the last frame of a response (R170). -/
def State.lastFrameDue (s : State) : Bool :=
  s.returnLine.now.isNone && decide (s.slot ≠ 0) && s.beaconHalf.isNone && (match s.response with
    | some r => decide (r.sent + 1 = r.frames.length)
    | none => false)

/-- RESPONSE_COMPLETE: the last frame of a response is sent and the buffer becomes empty (R170). -/
def State.takeResponseComplete (s : State) : State := if s.lastFrameDue then s.chooseReturn else s

def execResponseComplete (s : State) : Result := .next (s.live State.takeResponseComplete)

end Sys2Proof.Machine
end

