-- ==== Sys2Proof/Machine/Crystal.lean ====
section
/-!
DEFINITION. The end of a frame time: the own events still outstanding, the frames of the slot, and device time (R1, R44).
Meaning: DEVICE_TIME_ADVANCE.
-/

namespace Sys2Proof.Machine

/-! ### The device's own events -/

/-- The event by which a handed message is taken (R13). -/
def Handed.event : Handed → Instr
  | .chord _ _ _ _ _ => .chordMessage
  | .read _ => .read
  | .hymn _ _ => .hymn
  | .start _ => .start
  | .stop => .stop
  | .gate => .gate
  | .flush _ => .flush
  | .clear _ => .clear

/-- Whether the message first in line is taken by event `c`. -/
def State.nextHanded (s : State) (c : Instr) : Bool := decide (s.handed.head?.map Handed.event = some c)

/-- A word can begin in the present slot, whose frame is not chosen yet (R144). -/
def State.wordDue (s : State) (d : Division) : Bool :=
  s.ports[d].line.now.isNone && decide (s.slot ≠ 0) && decide (s.slot ≠ 31)
    && s.ports[d].transmission.isNone && s.ports[d].wordReady

/-- A beacon can begin in the present slot, whose frame is not chosen yet (R170). -/
def State.beaconDue (s : State) : Bool :=
  s.returnLine.now.isNone && decide (s.slot ≠ 0) && decide (s.slot ≠ 31)
    && s.beaconHalf.isNone && s.response.isNone

/-- Whether an event of the device's own is outstanding: the rules take it in the present frame time.
What arrives from outside is never the device's own. -/
def State.outstanding (s : State) : Instr → Bool
  | .powerReset => false
  | .resetRelease _ => false
  | .sync _ => false
  | .lockLoss => s.nave.timedOut s.deviceTime
  | .data _ => false
  | .chordHeader _ => false
  | .commandHeader _ => false
  | .fill => false
  | .corruptedSync => false
  | .lostOnset => false
  | .damagedFrame => false
  | .chordMessage => s.nextHanded .chordMessage
  | .load => s.assembly.completeLoad.isSome
  | .read => s.nextHanded .read
  | .hymn => s.nextHanded .hymn
  | .start => s.nextHanded .start
  | .stop => s.nextHanded .stop
  | .gate => s.nextHanded .gate
  | .flush => s.nextHanded .flush
  | .clear => s.nextHanded .clear
  | .onset _ => false
  | .listenExpiry r => s.listenEnds r
  | .silenceFall => s.silenceFalls
  | .freezeEntry => s.freezeRow.isSome
  | .starvationEntry => s.starves
  | .arm => s.armRow.isSome
  | .gateSoundExpiry => (s.expiredGate .sound).isSome
  | .gateDropExpiry => (s.expiredGate .drop).isSome
  | .fermataExpiry => s.expiredFreeze.isSome
  | .release d => (s.releaseRow d).isSome
  | .heldReleaseOffer d => (s.offerRow d).isSome
  | .allOffEntry d => s.ports[d].allOffReady
  | .wordLeaving d => s.wordDue d
  | .credit _ _ => false
  | .stall d => s.stallsNow d
  | .chestSync _ _ => false
  | .receiveLockLoss d => s.ports[d].rx.timedOut s.deviceTime
  | .beacon => s.beaconDue
  | .responseComplete => s.lastFrameDue
  | .deviceTimeAdvance => false

/-- An own event taken; what arrives from outside is never taken here. -/
def State.takeOwn (s : State) : Instr → State
  | .powerReset => s
  | .resetRelease _ => s
  | .sync _ => s
  | .lockLoss => s.takeLockLoss
  | .data _ => s
  | .chordHeader _ => s
  | .commandHeader _ => s
  | .fill => s
  | .corruptedSync => s
  | .lostOnset => s
  | .damagedFrame => s
  | .chordMessage => s.takeChordMessage
  | .load => s.openLoad
  | .read => s.takeRead
  | .hymn => s.takeHymn
  | .start => s.takeStart
  | .stop => s.takeStop
  | .gate => s.takeGate
  | .flush => s.takeFlush
  | .clear => s.takeClear
  | .onset _ => s
  | .listenExpiry r => s.takeListenExpiry r
  | .silenceFall => s.takeSilenceFall
  | .freezeEntry => s.takeFreezeEntry
  | .starvationEntry => s.takeStarvationEntry
  | .arm => s.armReached
  | .gateSoundExpiry => s.takeGateSoundExpiry
  | .gateDropExpiry => s.takeGateDropExpiry
  | .fermataExpiry => s.takeFermataExpiry
  | .release d => s.takeRelease d
  | .heldReleaseOffer d => s.takeOffer d
  | .allOffEntry d => s.enterAllOff d
  | .wordLeaving d => s.fillChestSlot d
  | .credit _ _ => s
  | .stall d => s.takeStall d
  | .chestSync _ _ => s
  | .receiveLockLoss d => s.takeReceiveLockLoss d
  | .beacon => s.takeBeacon
  | .responseComplete => s.takeResponseComplete
  | .deviceTimeAdvance => s

/-- The four divisions. -/
def allDivisions : List Division := [0, 1, 2, 3]

/-- Every own event, in the order in which outstanding ones are taken at the end of a frame time (DESIGN CHOICE, log 3):
messages and lock first; then freeze entry, so that rows after a fermata which a re-anchor has placed in the past wait for
the freeze (R88); then entries to the queues and releases, the rest of the follower, stalls, LISTEN expiries, and the frames
of the slot last, so that they see every event of the frame time. -/
def ownEvents : List Instr :=
  [.load, .chordMessage, .read, .hymn, .start, .stop, .gate, .flush, .clear, .lockLoss]
    ++ allDivisions.map Instr.receiveLockLoss
    ++ [.freezeEntry]
    ++ allDivisions.map Instr.allOffEntry
    ++ allDivisions.map Instr.heldReleaseOffer
    ++ allDivisions.map Instr.release
    ++ [.arm, .gateSoundExpiry, .gateDropExpiry, .fermataExpiry, .silenceFall, .starvationEntry]
    ++ allDivisions.map Instr.stall
    ++ allRows.map Instr.listenExpiry
    ++ allDivisions.map Instr.wordLeaving
    ++ [.beacon, .responseComplete]

/-- The next outstanding own event, if any. -/
def State.nextOwn (s : State) : Option Instr := ownEvents.find? s.outstanding

/-- Outstanding own events taken one after another, at most `n` of them. -/
def settle : Nat → State → State
  | 0, s => s
  | n + 1, s =>
    match s.nextOwn with
    | some c => settle n (s.takeOwn c)
    | none => s

/-! ### The end of the frame time -/

/-- Lines not yet chosen send their frame of the slot: SYNC, a second half, a response frame, FILL (R144, R170, log 4). -/
def State.fillSlots (s : State) : State := (forDivisions State.fillChestSlot s).fillReturnSlot

/-- A line at the end of a slot: its frame becomes the last slot's, and the next slot is open. -/
def Line.next (l : Line) : Line := { now := none, last := l.now.getD .fill }

def Port.nextSlot (p : Port) : Port := { p with line := p.line.next }

/-- Device time and the anchor age advance by one, the age stopping at its limit, and the next slot opens (R1, R44). -/
def State.advance (s : State) : State :=
  { s with
    deviceTime := s.deviceTime + 1
    follower := { s.follower with age := min (s.follower.age + 1) Config.ageLimit }
    ports := Vector.ofFn fun d : Fin 4 => s.ports[d].nextSlot
    returnLine := s.returnLine.next }

/-- A slot with RESET_n low: every line carries FILL and device time stands (R1, R142, R169). -/
def State.heldSlot (s : State) : State :=
  { s with
    ports := Vector.ofFn fun d : Fin 4 => { s.ports[d] with line := Line.idle }
    returnLine := Line.idle }

/-- The end of a frame time: the outstanding own events are taken (log 3), every line has its frame, time advances. -/
def State.endFrameTime (s : State) : State :=
  if s.resetHeld then s.heldSlot
  else (settle Config.settleRounds s).fillSlots.advance

def execDeviceTimeAdvance (s : State) : Result := .next s.endFrameTime

end Sys2Proof.Machine
end

