-- ==== Sys2Proof/Machine/Dispatch.lean ====
section
/-!
DEFINITION. exec: one arm per command, each one call of its meaning.
-/

namespace Sys2Proof.Machine

def exec (i : Instr) (s : State) : Host.Outcome State Fault Refusal :=
  match i with
  | .powerReset => Sys2Proof.Machine.execPowerReset s
  | .resetRelease straps => Sys2Proof.Machine.execResetRelease straps s
  | .sync a => Sys2Proof.Machine.execSync a s
  | .lockLoss => Sys2Proof.Machine.execLockLoss s
  | .data w => Sys2Proof.Machine.execData w s
  | .chordHeader second => Sys2Proof.Machine.execChordHeader second s
  | .commandHeader v => Sys2Proof.Machine.execCommandHeader v s
  | .fill => Sys2Proof.Machine.execFill s
  | .corruptedSync => Sys2Proof.Machine.execCorruptedSync s
  | .lostOnset => Sys2Proof.Machine.execLostOnset s
  | .damagedFrame => Sys2Proof.Machine.execDamagedFrame s
  | .chordMessage => Sys2Proof.Machine.execChordMessage s
  | .load => Sys2Proof.Machine.execLoad s
  | .read => Sys2Proof.Machine.execRead s
  | .hymn => Sys2Proof.Machine.execHymn s
  | .start => Sys2Proof.Machine.execStart s
  | .stop => Sys2Proof.Machine.execStop s
  | .gate => Sys2Proof.Machine.execGate s
  | .flush => Sys2Proof.Machine.execFlush s
  | .clear => Sys2Proof.Machine.execClear s
  | .onset rec => Sys2Proof.Machine.execOnset rec s
  | .listenExpiry r => Sys2Proof.Machine.execListenExpiry r s
  | .silenceFall => Sys2Proof.Machine.execSilenceFall s
  | .freezeEntry => Sys2Proof.Machine.execFreezeEntry s
  | .starvationEntry => Sys2Proof.Machine.execStarvationEntry s
  | .arm => Sys2Proof.Machine.execArm s
  | .gateSoundExpiry => Sys2Proof.Machine.execGateSoundExpiry s
  | .gateDropExpiry => Sys2Proof.Machine.execGateDropExpiry s
  | .fermataExpiry => Sys2Proof.Machine.execFermataExpiry s
  | .release d => Sys2Proof.Machine.execRelease d s
  | .heldReleaseOffer d => Sys2Proof.Machine.execHeldReleaseOffer d s
  | .allOffEntry d => Sys2Proof.Machine.execAllOffEntry d s
  | .wordLeaving d => Sys2Proof.Machine.execWordLeaving d s
  | .credit d v => Sys2Proof.Machine.execCredit d v s
  | .stall d => Sys2Proof.Machine.execStall d s
  | .chestSync d a => Sys2Proof.Machine.execChestSync d a s
  | .receiveLockLoss d => Sys2Proof.Machine.execReceiveLockLoss d s
  | .beacon => Sys2Proof.Machine.execBeacon s
  | .responseComplete => Sys2Proof.Machine.execResponseComplete s
  | .deviceTimeAdvance => Sys2Proof.Machine.execDeviceTimeAdvance s

end Sys2Proof.Machine
end

