-- ==== Sys2Proof/Safety.lean ====
section
/-!
DEFINITION. The conditions under which commands act, and the invariants the manual claims of every state a run reaches.
-/

namespace Sys2Proof.Machine

/-! ### Conditions -/

/-- RESET_n is high (R11). -/
abbrev State.Running (s : State) : Prop := s.resetHeld = false

/-- RESET_n is high and the nave link is LOCKED (R7, R12). -/
abbrev State.Locked (s : State) : Prop := s.resetHeld = false ∧ s.nave.aligned.isSome = true

/-- No complete LOAD message is waiting for its stream to open (R17, log 5). -/
abbrev State.NoLoadWaiting (s : State) : Prop := s.assembly.completeLoad = none

/-! ### Ports (R104, R142, R146, R148, R149, R151, R154) -/

/-- One port with its division's held release. -/
abbrev Port.Sound (p : Port) (held : Option RowNumber) : Prop :=
  p.credits ≤ 6 ∧ p.queue.length ≤ 12
    ∧ (p.owedAllOff = true → p.state ≠ .off)
    ∧ (p.state = .waiting ↔ held.isSome = true)
    ∧ (p.state = .waiting ↔ p.waitingSince.isSome = true)
    ∧ (p.state = .stalled ∨ p.state = .off → p.queue = [] ∧ p.credits = 0)

/-- Credits stay within 0..6 and queues within 12 words; WAITING goes with a held release and a waiting-since time;
nothing is owed to an OFF port; a STALLED or OFF port holds no word and no credit. -/
abbrev State.PortsSound (s : State) : Prop := ∀ d : Division, s.ports[d].Sound s.held[d]

/-! ### Tables (R168) -/

/-- Every stored row passes the check of its table. -/
abbrev Tables.Valid (t : Tables) : Prop :=
  t.control.valid = true ∧ (∀ i : Fin 2, loftValid t.loft[i] = true)
    ∧ (∀ i : Fin 4, t.division[i].valid = true) ∧ (∀ i : Fin 8, t.profile[i].valid = true)
    ∧ (∀ i : Fin 64, t.registration[i].valid = true)

/-! ### The follower (R42, R44, R46, R57) -/

/-- The match count is 0..4, the freeze record is present exactly in FREEZE, the anchor age is at most its limit,
Pmin ≤ Pmax, and outside IDLE the period lies between them. -/
abbrev Follower.Sound (f : Follower) : Prop :=
  f.matchCount ≤ 4 ∧ (f.mode = .freeze ↔ f.freeze.isSome = true) ∧ f.age ≤ Config.ageLimit
    ∧ f.profile.pmin ≤ f.profile.pmax
    ∧ (f.mode ≠ .idle → f.profile.pmin ≤ f.period ∧ f.period ≤ f.profile.pmax)

/-- The follower is sound and the tables it copies from are valid. -/
abbrev State.ClockSound (s : State) : Prop := s.follower.Sound ∧ s.tables.Valid

/-! ### Division records (R126, R129) -/

/-- A Voice Register entry is silent or a pitch code 2..62. -/
abbrev EntrySound (e : Option Value6) : Prop := ∀ c ∈ e, 2 ≤ c.toNat ∧ c.toNat ≤ 62

/-- The keys that sound: those with a holder (R129). -/
def DivisionRecord.soundingKeys (r : DivisionRecord) : List (Fin 73) :=
  (List.finRange 73).filter fun k => !r.keyMap[k].isEmpty

/-- At most twelve keys sound, entries are sound, and a record without a current set is all silent. -/
abbrev DivisionRecord.Sound (r : DivisionRecord) : Prop :=
  r.soundingKeys.length ≤ 12 ∧ EntrySound r.register.soprano ∧ EntrySound r.register.alto
    ∧ EntrySound r.register.tenor ∧ EntrySound r.register.bass
    ∧ (r.currentSet = none → r = DivisionRecord.silent)

abbrev State.RecordsSound (s : State) : Prop := ∀ d : Division, s.divisions[d].Sound

/-! ### The Cue Table and the Release Order List (R25, R33, R35, R49, R82, R104, R114) -/

/-- A row in this state is on the list (R25). -/
def RowState.onList : RowState → Bool
  | .empty => false
  | .pending => true
  | .gated => true
  | .releasing => true
  | .listen => false

/-- How many release marks a row carries. -/
def CueRow.marks (c : CueRow) : Nat := c.released.toList.countP id

/-- The release marks a row's state allows (R25), and an arm time only while GATED (R25, R82). -/
abbrev CueRow.MarksSound (c : CueRow) : Prop :=
  (c.rowState = .pending ∨ c.rowState = .gated → c.marks = 0)
    ∧ (c.rowState = .releasing → 0 < c.marks ∧ c.marks < 4)
    ∧ (c.rowState = .listen → c.marks = 4)
    ∧ (c.armed.isSome = true → c.rowState = .gated)

/-- The list holds exactly the PENDING, GATED and RELEASING rows, in strictly ascending position (R35). -/
abbrev State.ListSound (s : State) : Prop :=
  (∀ r : RowNumber, r ∈ s.rol ↔ s.cues[r].rowState.onList = true)
    ∧ s.rol.Pairwise (fun a b => s.cues[a].position < s.cues[b].position)

/-- A row that is not EMPTY is no higher than the high mark, no two such rows share a position (R33), and in IDLE
every row is EMPTY (R49). -/
abbrev State.PositionsSound (s : State) : Prop :=
  (∀ r : RowNumber, s.cues[r].rowState ≠ .empty → (s.cues[r].position : Int) ≤ s.highMark)
    ∧ (∀ a b : RowNumber, s.cues[a].rowState ≠ .empty → s.cues[b].rowState ≠ .empty →
        s.cues[a].position = s.cues[b].position → a = b)
    ∧ (s.follower.mode = .idle → ∀ r : RowNumber, s.cues[r].rowState = .empty)

/-- Marks are set in list order (R114), and a held release is its division's earliest unreleased row, not GATED (R104, R106). -/
abbrev State.ReleasesSound (s : State) : Prop :=
  (∀ r : RowNumber, s.cues[r].MarksSound)
    ∧ s.rol.Pairwise (fun a b => ∀ d : Division, s.cues[b].released[d] = true → s.cues[a].released[d] = true)
    ∧ (∀ d : Division, ∀ r ∈ s.held[d],
        s.earliestUnreleased d = some r ∧ s.cues[r].rowState ≠ .gated)

/-- The Cue Table, its list and the held releases agree. -/
abbrev State.CuesSound (s : State) : Prop :=
  s.ListSound ∧ s.PositionsSound ∧ s.ReleasesSound ∧ s.PortsSound

end Sys2Proof.Machine
end

