-- ==== Sys2Proof/Certificates/Slice0/Obligations.lean ====
section
/-!
DEFINITION. The statements for the provers. Each result statement gives the whole next state, so that what a command
leaves unchanged is part of it.
-/

open Sys2Proof Sys2Proof.Machine

/-! ### Steps, reset, device time -/

/-- A step takes the command at the front of the queue, and idles on an empty queue (log 1: the model's choice). -/
def Obligations.StepRunsFrontCommand : Prop :=
  (∀ (c : Instr) (rest : List Instr) (s : State),
    step { s with pending := c :: rest } = exec c { s with pending := rest })
  ∧ (∀ s : State, s.pending = [] → step s = .next s)

/-- No command stops the device (log 15), and none touches the queue (log 1, log 14). -/
def Obligations.EveryCommandAnswersNext : Prop :=
  ∀ (c : Instr) (s : State), ∃ t, exec c s = .next t ∧ t.pending = s.pending

/-- POWER_RESET, and what the manual's reset columns give each block (R1, R11, R26, R42, R81, R104, R125, R142, R158, R169).
The queue (log 14), RESET_n held low in this state (log 9) and the fields log 8 names are the model's choices. -/
def Obligations.PowerResetState : Prop :=
  (∀ s : State, exec .powerReset s = .next { State.reset with pending := s.pending })
  ∧ State.reset.deviceTime = 0
  ∧ State.reset.nave.aligned = none ∧ (∀ a : Sys2Proof.Alignment, State.reset.nave.counts[a] = 0)
  ∧ State.reset.assembly = .ready
  ∧ (∀ r : RowNumber, State.reset.cues[r] = {
      rowState := .empty, position := 0, voices := ⟨0, 0, 0, 0⟩, regSet := 0
      syllable := false, fermata := false, gateMode := .none, armed := none
      released := #v[false, false, false, false], eastMark := false, westMark := false }
    ∧ State.reset.updateMarks[r] = false)
  ∧ State.reset.rol = [] ∧ State.reset.highMark = -1
  ∧ State.reset.follower = {
      mode := .idle, ta := 0, ba := 0, age := 0, period := 64000
      profile := State.reset.tables.profile[0].profile, transposition := 0, startingSet := 0
      prevUpdate := none, matchCount := 0, lastMatch := 0, lastReleased := none
      freeze := none, lastFreeze := -1 }
  ∧ (∀ d : Division, State.reset.held[d] = none ∧ State.reset.divisions[d].currentSet = none
    ∧ State.reset.divisions[d].register = ⟨none, none, none, none⟩
    ∧ (∀ k : Fin 73, State.reset.divisions[d].keyMap[k] = [])
    ∧ State.reset.ports[d].state = .active ∧ State.reset.ports[d].queue = []
    ∧ State.reset.ports[d].credits = 0 ∧ State.reset.ports[d].owedAllOff = true
    ∧ State.reset.ports[d].waitingSince = none ∧ State.reset.ports[d].transmission = none
    ∧ State.reset.ports[d].rx.aligned = none ∧ (∀ a : Sys2Proof.Alignment, State.reset.ports[d].rx.counts[a] = 0))
  ∧ State.reset.response = none ∧ State.reset.beaconHalf = none
  ∧ (∀ c : Counter, State.reset.counters[c] = 0) ∧ State.reset.flags = 0
  ∧ (State.reset.tables.control = ⟨12, 127⟩
     ∧ (∀ i : Fin 2, State.reset.tables.loft[i] = 0)
     ∧ (∀ d : Fin 4, State.reset.tables.division[d] = ⟨2048, 0, 400⟩)
     ∧ (∀ i : Fin 8, State.reset.tables.profile[i] = ⟨40, 160, 1042, 860, 823⟩)
     ∧ (∀ set : BitVec 4,
         State.reset.tables.registration[registrationIndex set 0] = ⟨124, 1, 0⟩
         ∧ State.reset.tables.registration[registrationIndex set 1] = ⟨0, 1, 0⟩
         ∧ State.reset.tables.registration[registrationIndex set 2] = ⟨0, 1, 0⟩
         ∧ State.reset.tables.registration[registrationIndex set 3] = ⟨12, 1, 0⟩))

/-- RESET_RELEASE samples the straps, lets the device run, and enters each owed ALL-OFF that can enter (R11, R142,
R149). Before it nothing but POWER_RESET and the passing of slots acts (R1, R11, R142, R169, log 2), and on a running
device it is no event (log 2: the model's choice). -/
def Obligations.ResetReleaseStartsDevice : Prop :=
  (∀ (s : State) (a : Sys2Proof.Alignment) (w : Data12) (x : Symbol) (v : Value6) (q : RowNumber) (d : Division),
    s.resetHeld = true →
    ∀ c ∈ [Instr.sync a, .lockLoss, .data w, .chordHeader x, .commandHeader v, .fill, .corruptedSync, .lostOnset,
        .damagedFrame, .chordMessage, .load, .read, .hymn, .start, .stop, .gate, .flush, .clear, .onset v,
        .listenExpiry q, .silenceFall, .freezeEntry, .starvationEntry, .arm, .gateSoundExpiry, .gateDropExpiry,
        .fermataExpiry, .release d, .heldReleaseOffer d, .allOffEntry d, .wordLeaving d, .credit d v, .stall d,
        .chestSync d a, .receiveLockLoss d, .beacon, .responseComplete],
      exec c s = .next s)
  ∧ (∀ (straps : BitVec 3) (s : State), s.Running → exec (.resetRelease straps) s = .next s)
  ∧ ∀ (straps : BitVec 3) (s : State), s.resetHeld = true →
    exec (.resetRelease straps) s = .next { s with
      resetHeld := false
      partAddress := straps
      ports := Vector.ofFn fun d : Division =>
        if s.ports[d].owedAllOff = true ∧ (s.ports[d].state = .active ∨ s.ports[d].state = .waiting)
            ∧ s.ports[d].queue.length < 12 then
          { s.ports[d] with
            queue := s.ports[d].queue ++ [.allOff]
            owedAllOff := false
            offerDue := decide (s.ports[d].state = .waiting) || s.ports[d].offerDue }
        else s.ports[d] }

/-- Device time rises by one and wraps, whatever events the frame time held; with RESET_n low it stands and every line
carries FILL (R1, R142, R169). With no own event outstanding (log 3) and every line's frame chosen (log 4), time, the
anchor age (R44) and the lines are all that change. Device times are compared by their signed difference (R2). Before
time advances the outstanding own events are taken, first one first, at most 4096 (log 3: the model's choice), in an
order that has freeze entry before releases (R88) and offers before stalls (R157). An own event is outstanding exactly
when taking it changes the state (log 2: the model's choice); a frame of a slot, when a word, a beacon or a response's
last frame is due (log 4). -/
def Obligations.DeviceTimeAdvances : Prop :=
  (∀ s : State, s.Running → ∃ t, exec .deviceTimeAdvance s = .next t ∧ t.deviceTime = s.deviceTime + 1)
  ∧ (∀ s : State, s.resetHeld = true → ∃ t, exec .deviceTimeAdvance s = .next t
      ∧ t = { s with ports := t.ports, returnLine := t.returnLine }
      ∧ t.returnLine = ⟨none, .fill⟩
      ∧ (∀ d : Division, t.ports[d] = { s.ports[d] with line := ⟨none, .fill⟩ }))
  ∧ (∀ (s : State) (f : Division → OutFrame) (g : OutFrame), s.Running → s.nextOwn = none →
      (∀ d : Division, s.ports[d].line.now = some (f d)) → s.returnLine.now = some g →
      exec .deviceTimeAdvance s = .next { s with
        deviceTime := s.deviceTime + 1
        follower := { s.follower with age := min (s.follower.age + 1) 67108863 }
        ports := Vector.ofFn fun d : Division => { s.ports[d] with line := ⟨none, f d⟩ }
        returnLine := ⟨none, g⟩ })
  ∧ (∀ a b : Time, (16777216 : Int) ∣ Time.diff a b - ((a.toNat : Int) - (b.toNat : Int))
      ∧ -8388608 ≤ Time.diff a b ∧ Time.diff a b < 8388608 ∧ (Time.passed a b = true ↔ 0 < Time.diff a b))
  ∧ ((∀ s : State, s.Running → exec .deviceTimeAdvance s = .next (settle 4096 s).fillSlots.advance)
     ∧ (∀ s : State, settle 0 s = s ∧ s.nextOwn = ownEvents.find? s.outstanding)
     ∧ (∀ (s : State) (n : Nat), s.nextOwn = none → settle n s = s)
     ∧ (∀ (s u : State) (n : Nat) (c : Instr), s.Running → s.nextOwn = some c → exec c s = .next u →
         settle (n + 1) s = settle n u)
     ∧ ownEvents = [.load, .chordMessage, .read, .hymn, .start, .stop, .gate, .flush, .clear, .lockLoss,
           .receiveLockLoss 0, .receiveLockLoss 1, .receiveLockLoss 2, .receiveLockLoss 3, .freezeEntry,
           .allOffEntry 0, .allOffEntry 1, .allOffEntry 2, .allOffEntry 3,
           .heldReleaseOffer 0, .heldReleaseOffer 1, .heldReleaseOffer 2, .heldReleaseOffer 3,
           .release 0, .release 1, .release 2, .release 3,
           .arm, .gateSoundExpiry, .gateDropExpiry, .fermataExpiry, .silenceFall, .starvationEntry,
           .stall 0, .stall 1, .stall 2, .stall 3]
         ++ (List.finRange 200).map Instr.listenExpiry
         ++ [.wordLeaving 0, .wordLeaving 1, .wordLeaving 2, .wordLeaving 3, .beacon, .responseComplete])
  ∧ ((∀ (s : State) (r : RowNumber) (d : Division), s.Running → s.PortsSound →
       ∀ c ∈ [Instr.load, .chordMessage, .read, .hymn, .start, .stop, .gate, .flush, .clear, .lockLoss,
           .receiveLockLoss d, .freezeEntry, .allOffEntry d, .heldReleaseOffer d, .release d, .arm, .gateSoundExpiry,
           .gateDropExpiry, .fermataExpiry, .silenceFall, .starvationEntry, .stall d, .listenExpiry r],
         (s.outstanding c = true ↔ exec c s ≠ .next s))
     ∧ (∀ (s : State) (d : Division), s.outstanding (.wordLeaving d) = true ↔
         s.ports[d].line.now = none ∧ s.deviceTime.toNat % 32 ≠ 0 ∧ s.deviceTime.toNat % 32 ≠ 31
         ∧ s.ports[d].transmission = none ∧ (s.ports[d].state = .active ∨ s.ports[d].state = .waiting)
         ∧ s.ports[d].queue ≠ [] ∧ 1 ≤ s.ports[d].credits)
     ∧ (∀ s : State, (s.outstanding .beacon = true ↔ s.returnLine.now = none ∧ s.deviceTime.toNat % 32 ≠ 0
           ∧ s.deviceTime.toNat % 32 ≠ 31 ∧ s.beaconHalf = none ∧ s.response = none)
         ∧ (s.outstanding .responseComplete = true ↔ s.returnLine.now = none ∧ s.deviceTime.toNat % 32 ≠ 0
           ∧ s.beaconHalf = none ∧ ∃ x, s.response = some x ∧ x.sent + 1 = x.frames.length)))

/-! ### Symbols and frames -/

/-- The classes of symbols (R3). -/
def Obligations.SymbolClasses : Prop :=
  (∀ x : Symbol, x.ones = (List.range 8).countP fun i => x.getLsbD i)
  ∧ [0x0F, 0x33, 0x3C, 0xC3, 0xCC, 0xF0].map Symbol.classify
      = [.control 0, .control 1, .control 2, .control 3, .control 4, .control 5]
  ∧ (∀ x : Symbol, x.ones = 4 → x ∉ ([0x0F, 0x33, 0x3C, 0xC3, 0xCC, 0xF0] : List Symbol) →
      ∃ v, x.classify = .value v)
  ∧ (∀ x : Symbol, x.ones = 3 ∨ x.ones = 5 → x.classify = .flipped)
  ∧ (∀ x : Symbol, x.ones < 3 ∨ 5 < x.ones → x.classify = .foreign)
  ∧ (∀ x : Symbol, x.classify.damaged = true ↔ x.classify = .flipped ∨ x.classify = .foreign)
  ∧ ((List.range 256).countP fun n => decide (∃ k : Fin 6, Symbol.classify (BitVec.ofNat 8 n) = .control k.val)) = 6
  ∧ ((List.range 256).countP fun n => decide (∃ v : Value6, Symbol.classify (BitVec.ofNat 8 n) = .value v)) = 64
  ∧ ((List.range 256).countP fun n => decide (Symbol.classify (BitVec.ofNat 8 n) = .flipped)) = 112
  ∧ ((List.range 256).countP fun n => decide (Symbol.classify (BitVec.ofNat 8 n) = .foreign)) = 74

/-- Value symbols carry the 64 values in ascending order of pattern, and a 12-bit word travels as two of them (R4). -/
def Obligations.ValueSymbolsAscend : Prop :=
  (∀ v : Value6, (valueSymbol v).classify = .value v)
  ∧ (∀ (x : Symbol) (v : Value6), x.classify = .value v → x = valueSymbol v)
  ∧ (∀ v w : Value6, v < w → valueSymbol v < valueSymbol w)
  ∧ (∀ w : Data12, (OutFrame.data w).symbols
      = (valueSymbol (BitVec.ofNat 6 (w.toNat / 64)), valueSymbol (BitVec.ofNat 6 (w.toNat % 64))))
  ∧ (OutFrame.data 514).symbols = (0x35, 0x1D)

/-- The frame kinds and what each carries (R5). -/
def Obligations.NaveFrameKinds : Prop :=
  ∀ (al : Sys2Proof.Alignment) (a b : Symbol) (u v : Value6),
    (a.classify = .control 0 → b.classify = .control 5 → naveFrame al a b = .sync al)
    ∧ (a.classify = .control 0 → b.classify.damaged = true → naveFrame al a b = .corruptedSync)
    ∧ (a.classify.damaged = true → b.classify = .control 5 → naveFrame al a b = .corruptedSync)
    ∧ (a.classify = .control 1 → b.classify = .value v → naveFrame al a b = .onset v)
    ∧ (a.classify = .control 1 → b.classify.damaged = true → naveFrame al a b = .lostOnset)
    ∧ (a.classify = .control 2 → b.classify = .value v ∨ b.classify.damaged = true →
        naveFrame al a b = .chordHeader b)
    ∧ (a.classify = .control 3 → b.classify = .value v → naveFrame al a b = .commandHeader v)
    ∧ (a.classify = .control 3 → b.classify.damaged = true → naveFrame al a b = .damagedFrame)
    ∧ (a.classify = .control 4 → b.classify = .control 4 → naveFrame al a b = .fill)
    ∧ (a.classify = .value u → b.classify = .value v →
        ∃ w : Data12, naveFrame al a b = .data w ∧ w.toNat = u.toNat * 64 + v.toNat)
    ∧ (a.classify = .control 5 → naveFrame al a b = .damagedFrame)
    ∧ (a.classify = .control 0 → b.classify = .value v → naveFrame al a b = .damagedFrame)
    ∧ (∀ k, k ≠ 5 → a.classify = .control 0 → b.classify = .control k → naveFrame al a b = .damagedFrame)
    ∧ (∀ k, a.classify = .control 1 ∨ a.classify = .control 2 ∨ a.classify = .control 3 →
        b.classify = .control k → naveFrame al a b = .damagedFrame)
    ∧ (a.classify = .control 4 → b.classify ≠ .control 4 → naveFrame al a b = .damagedFrame)
    ∧ (a.classify = .value u → (∀ w, b.classify ≠ .value w) → naveFrame al a b = .damagedFrame)
    ∧ (a.classify.damaged = true → b.classify ≠ .control 5 → naveFrame al a b = .damagedFrame)
    ∧ (headerAddress v).toNat = v.toNat / 8
    ∧ headerCode v = CommandCode.ofBits (BitVec.ofNat 3 (v.toNat % 8))

/-! ### Frame lock -/

/-- A SYNC raises its alignment's count up to N_lock; in SEARCH a count at N_lock takes lock (R7); in LOCKED the lock
alignment zeroes the other counts and renews the last SYNC's time (R8); below N_lock / 2 a competing count only rises (R9). -/
def Obligations.SyncCountsTowardLock : Prop :=
  ∀ (a b : Sys2Proof.Alignment) (s : State) (n c : Nat), s.Running → n = s.tables.control.lockCount →
    c = min (s.nave.counts[a] + 1) n →
    (s.nave.aligned = none → c < n →
      exec (.sync a) s = .next { s with nave := { s.nave with counts := s.nave.counts.set a c } })
    ∧ (s.nave.aligned = none → n ≤ c →
      exec (.sync a) s = .next { s with
        nave := { aligned := some a, counts := (Vector.replicate 16 0).set a c, lastSync := s.deviceTime }
        assembly := .ready })
    ∧ (s.nave.aligned = some a →
      exec (.sync a) s = .next { s with
        nave := { s.nave with counts := (Vector.replicate 16 0).set a c, lastSync := s.deviceTime } })
    ∧ (s.nave.aligned = some b → a ≠ b → 2 * c < n →
      exec (.sync a) s = .next { s with nave := { s.nave with counts := s.nave.counts.set a c } })

/-- Loss of lock by its two events: the 48-frame-time limit, and a competing count at N_lock / 2 (R9). A complete LOAD
standing at that moment counts as the stream it opens (log 5). LOCK_LOSS in SEARCH or within the limit changes nothing
(log 2: the model's choice). -/
def Obligations.LockIsLost : Prop :=
  (∀ s : State, (∀ b, s.nave.aligned = some b → Time.diff s.deviceTime (s.nave.lastSync + 48) ≤ 0) →
    exec .lockLoss s = .next s)
  ∧ ∀ (c : Instr) (b : Sys2Proof.Alignment) (s : State), s.Running → s.nave.aligned = some b →
    (c = .lockLoss ∧ Time.passed s.deviceTime (s.nave.lastSync + 48) = true
      ∨ (∃ a, c = .sync a ∧ a ≠ b
          ∧ s.tables.control.lockCount ≤ 2 * min (s.nave.counts[a] + 1) s.tables.control.lockCount)) →
    exec c s = .next { s with
      nave := { s.nave with aligned := none, counts := Vector.replicate 16 0 }
      assembly := .ready
      counters := if s.assembly = .ready then (s.raise Counter.lockLosses).counters
        else ((s.openLoad.raise Counter.lockLosses).raise Counter.abortedOrMalformed).counters
      flags := if s.follower.mode = .idle then s.flags else s.flags ||| 1 }

/-! ### Messages -/

/-- A complete LOAD opens its stream with the payload's table and row (R17), by LOAD itself or, as log 5 has it, before
the next frame that is not interleaved. The five tables, their rows and their words per row (R17, R158). With no
complete LOAD standing, LOAD changes nothing (log 2: the model's choice). -/
def Obligations.LoadOpensStream : Prop :=
  (∀ s : State, (∀ addr acting p, s.assembly ≠ .assembling ⟨.command addr .load, acting, [p]⟩) →
    exec .load s = .next s)
  ∧ (∀ (table : BitVec 4) (rows words : Nat), tableShape table = some (rows, words) ↔
    table = 0 ∧ rows = 1 ∧ words = 2 ∨ table = 1 ∧ rows = 2 ∧ words = 1 ∨ table = 2 ∧ rows = 4 ∧ words = 3
    ∨ table = 3 ∧ rows = 8 ∧ words = 5 ∨ table = 4 ∧ rows = 64 ∧ words = 3)
  ∧ (∀ (s : State) (acting : Bool) (p : Data12) (addr : BitVec 3), s.Running →
    s.assembly = .assembling ⟨.command addr .load, acting, [p]⟩ →
    ((acting = false ∨ ∃ rows words, tableShape (p.extractLsb' 8 4) = some (rows, words) ∧ p.toNat % 256 < rows) →
      exec .load s = .next { s with
        assembly := .streaming
          { acting := acting, table := p.extractLsb' 8 4, nextRow := p.toNat % 256, staged := [] } })
    ∧ (acting = true →
      (tableShape (p.extractLsb' 8 4) = none
        ∨ ∃ rows words, tableShape (p.extractLsb' 8 4) = some (rows, words) ∧ rows ≤ p.toNat % 256) →
      exec .load s = .next { s with
        counters := (s.raise Counter.loadRefusals).counters
        assembly := .streaming
          { acting := false, table := p.extractLsb' 8 4, nextRow := p.toNat % 256, staged := [] } }))
  ∧ (∀ (s : State) (w : Data12) (x : Symbol) (v : Value6), s.Locked →
    exec (.data w) s = exec (.data w) s.openLoad
    ∧ exec (.chordHeader x) s = exec (.chordHeader x) s.openLoad
    ∧ exec (.commandHeader v) s = exec (.commandHeader v) s.openLoad
    ∧ exec .lostOnset s = exec .lostOnset s.openLoad
    ∧ exec .damagedFrame s = exec .damagedFrame s.openLoad)

/-- A DATA frame in READY is counted, in ASSEMBLING it is taken, and the last one completes the message, which is handed
on with its payloads if it is acting (R6, R13, R14). A complete LOAD stands until its stream opens (log 5). -/
def Obligations.DataTakenIntoMessage : Prop :=
  (∀ (base : Fin 50) (addr : BitVec 3) (code : CommandCode),
    (Header.chord base).expected = 4 ∧ (Header.command addr code).expected = code.expected)
  ∧ ∀ (w : Data12) (s : State), s.Locked →
    (s.assembly = .ready → exec (.data w) s = .next (s.raise Counter.unexpectedData))
    ∧ (∀ m : Message, s.assembly = .assembling m → m.payloads.length + 1 < m.header.expected →
      exec (.data w) s = .next { s with assembly := .assembling { m with payloads := m.payloads ++ [w] } })
    ∧ (∀ (base : Fin 50) (d1 d2 d3 : Data12), s.assembly = .assembling ⟨.chord base, true, [d1, d2, d3]⟩ →
      exec (.data w) s = .next { s with
        assembly := .ready, handed := s.handed ++ [.chord base d1 d2 d3 w] })
    ∧ (∀ (addr : BitVec 3) (code : CommandCode) (acting : Bool) (ps : List Data12) (h : Handed),
      s.assembly = .assembling ⟨.command addr code, acting, ps⟩ →
      (code = .read ∧ ps = [] ∧ h = .read w ∨ (∃ d1, code = .hymn ∧ ps = [d1] ∧ h = .hymn d1 w)
        ∨ code = .start ∧ ps = [] ∧ h = .start w ∨ code = .flush ∧ ps = [] ∧ h = .flush w
        ∨ code = .clear ∧ ps = [] ∧ h = .clear w) →
      exec (.data w) s = .next { s with
        assembly := .ready
        handed := if acting then s.handed ++ [h] else s.handed })
    ∧ (∀ (addr : BitVec 3) (acting : Bool), s.assembly = .assembling ⟨.command addr .load, acting, []⟩ →
      exec (.data w) s = .next { s with assembly := .assembling ⟨.command addr .load, acting, [w]⟩ })

/-- Each DATA frame of an open LOAD stream: discarded, staged, completing a row, or overrunning the table (R18, R20). -/
def Obligations.DataFillsTableRows : Prop :=
  ∀ (w : Data12) (s : State) (l : LoadStream), s.Locked → s.assembly = .streaming l →
    (l.acting = false → exec (.data w) s = .next s)
    ∧ (∀ rows words : Nat, l.acting = true → tableShape l.table = some (rows, words) →
      (rows ≤ l.nextRow → exec (.data w) s = .next { s with
        counters := (s.raise Counter.loadRefusals).counters
        assembly := .streaming { l with acting := false } })
      ∧ (l.nextRow < rows → l.staged.length + 1 < words → exec (.data w) s = .next { s with
        assembly := .streaming { l with staged := l.staged ++ [w] } })
      ∧ (l.nextRow < rows → words ≤ l.staged.length + 1 →
        exec (.data w) s = .next { s.storeRow l.table l.nextRow (l.staged ++ [w]) with
          assembly := .streaming { l with nextRow := l.nextRow + 1, staged := [] } }))

/-- A CHORD header's tag base, and the message it opens in READY (R15). -/
def Obligations.ChordHeaderTagBase : Prop :=
  (∀ (x : Symbol) (v : Value6), x.classify = .value v → ∀ h : v.toNat < 48, tagBase x = some ⟨v.toNat, by omega⟩)
  ∧ (∀ (x : Symbol) (v : Value6), x.classify = .value v → 48 ≤ v.toNat → tagBase x = some 49)
  ∧ (∀ x : Symbol, x.classify = .flipped → tagBase x = some 48)
  ∧ (∀ x : Symbol, x.classify = .foreign → tagBase x = some 49)
  ∧ (∀ (x : Symbol) (base : Fin 50) (s : State), s.Locked → s.assembly = .ready → tagBase x = some base →
      exec (.chordHeader x) s = .next { s with assembly := .assembling ⟨.chord base, true, []⟩ })

/-- A COMMAND header in READY: acting by its address (R16), complete at once when it expects no DATA (R13). The eight
command codes and the DATA frames each expects (R6). -/
def Obligations.CommandHeaderOpensMessage : Prop :=
  ([0, 1, 2, 3, 4, 5, 6, 7] : List (BitVec 3)).map CommandCode.ofBits
      = [.load, .read, .hymn, .start, .stop, .gate, .flush, .clear]
  ∧ ([.load, .read, .hymn, .start, .stop, .gate, .flush, .clear] : List CommandCode).map CommandCode.expected
      = [1, 1, 2, 1, 0, 0, 1, 1]
  ∧ ∀ (v : Value6) (s : State) (acting : Bool), s.Locked → s.assembly = .ready →
    (acting = true ↔ headerAddress v = s.partAddress ∧ headerAddress v ≠ 7
      ∨ headerAddress v = 7 ∧ headerCode v ≠ .read) →
    (0 < (headerCode v).expected → exec (.commandHeader v) s = .next { s with
      assembly := .assembling ⟨.command (headerAddress v) (headerCode v), acting, []⟩ })
    ∧ (headerCode v = .stop → exec (.commandHeader v) s = .next { s with
      handed := if acting then s.handed ++ [.stop] else s.handed })
    ∧ (headerCode v = .gate → exec (.commandHeader v) s = .next { s with
      handed := if acting then s.handed ++ [.gate] else s.handed })

/-- A header ends what is in progress before it opens its message: a message is aborted with counter 4, a stream closes,
and an acting stream's partial row is discarded with counter 17 (R14, R19). -/
def Obligations.HeaderEndsWhatIsInProgress : Prop :=
  ∀ (s : State) (x : Symbol) (v : Value6) (c : Instr), s.Locked → s.NoLoadWaiting →
    (c = .chordHeader x ∧ (tagBase x).isSome = true ∨ c = .commandHeader v) →
    (∀ m : Message, s.assembly = .assembling m →
      exec c s = exec c { s.raise Counter.abortedOrMalformed with assembly := .ready })
    ∧ (∀ l : LoadStream, s.assembly = .streaming l →
      (l.acting = true → l.staged ≠ [] →
        exec c s = exec c { s.raise Counter.loadRefusals with assembly := .ready })
      ∧ (l.acting = false ∨ l.staged = [] → exec c s = exec c { s with assembly := .ready }))

/-- FILL and corrupted syncs stand between the frames of a message: nothing but counter 7 changes (R13, R14). A lost onset
(counter 8) or other damaged frame (counter 6), a K2 frame with a control symbol among them (R5), aborts the message or
stream in progress with counter 4 (R14). In SEARCH no frame but SYNC is decoded, and none acts (R7, R12). -/
def Obligations.DamagedAndInterleavedFrames : Prop :=
  (∀ (s : State) (w : Data12) (x : Symbol) (v o : Value6), s.nave.aligned = none →
    ∀ c ∈ [Instr.fill, .corruptedSync, .lostOnset, .damagedFrame, .data w, .chordHeader x, .commandHeader v, .onset o],
      exec c s = .next s)
  ∧ ((∀ s : State, exec .fill s = .next s)
   ∧ (∀ s : State, s.Locked →
       exec .corruptedSync s = .next { s with counters := (s.raise Counter.corruptedSyncs).counters }))
  ∧ (∀ (s : State) (x : Symbol), s.Locked → s.NoLoadWaiting →
       (s.assembly = .ready →
         exec .lostOnset s = .next (s.raise Counter.lostOnsets)
         ∧ exec .damagedFrame s = .next (s.raise Counter.damagedFrames)
         ∧ (tagBase x = none → exec (.chordHeader x) s = .next (s.raise Counter.damagedFrames)))
       ∧ (s.assembly ≠ .ready →
         exec .lostOnset s = .next { s with
           assembly := .ready
           counters := ((s.raise Counter.abortedOrMalformed).raise Counter.lostOnsets).counters }
         ∧ exec .damagedFrame s = .next { s with
           assembly := .ready
           counters := ((s.raise Counter.abortedOrMalformed).raise Counter.damagedFrames).counters }
         ∧ (tagBase x = none → exec (.chordHeader x) s = .next { s with
           assembly := .ready
           counters := ((s.raise Counter.abortedOrMalformed).raise Counter.damagedFrames).counters })))

/-! ### Tables -/

/-- When a division row is valid, and the refusal of an invalid one (R159, R162). -/
def Obligations.DivisionRowValidity : Prop :=
  (∀ r : DivisionRow, r.valid = true ↔
    r.w0.toNat % 2048 ≤ 2000 ∧ r.w1.toNat / 64 ≤ 72 - r.w1.toNat % 64
      ∧ 40 ≤ r.w2.toNat ∧ r.w2.toNat ≤ 4000)
  ∧ (∀ r : DivisionRow, r.valid = true → r.compassLow ≤ r.compassHigh ∧ r.compassHigh ≤ 72)
  ∧ (∀ low high : Nat, low ≤ 63 → 9 ≤ high → high ≤ 72 → low ≤ high → ∀ w0 w2 : Data12,
      w0.toNat % 2048 ≤ 2000 → 40 ≤ w2.toNat → w2.toNat ≤ 4000 →
      ∃ w1 : Data12, (⟨w0, w1, w2⟩ : DivisionRow).valid = true
        ∧ (⟨w0, w1, w2⟩ : DivisionRow).compassLow = low ∧ (⟨w0, w1, w2⟩ : DivisionRow).compassHigh = high)
  ∧ (∀ (s : State) (d : Division) (w0 w1 w2 : Data12), (⟨w0, w1, w2⟩ : DivisionRow).valid = false →
      s.storeRow 2 d.val [w0, w1, w2] = s.raise Counter.loadRefusals)

/-- A row of the control, loft, profile or registration table is stored whole when every field is in range, and otherwise
refused with counter 17 alone (R159, R160, R161, R164, R166). -/
def Obligations.RowStoredOrRefused : Prop :=
  ∀ (s : State) (w0 w1 w2 w3 w4 : Data12),
    s.storeRow 0 0 [w0, w1] =
      (if w0.toNat / 64 = 0 ∧ w1.toNat / 128 = 0 ∧ 4 ≤ w0.toNat ∧ w0.toNat ≤ 60 ∧ w0.toNat % 2 = 0 then
        { s with tables := { s.tables with control := ⟨w0, w1⟩ } }
      else s.raise Counter.loadRefusals)
    ∧ (∀ i : Fin 2, s.storeRow 1 i.val [w0] =
      (if w0.toNat ≤ 400 then { s with tables := { s.tables with loft := s.tables.loft.set i w0 } }
      else s.raise Counter.loadRefusals))
    ∧ (∀ i : Fin 8, s.storeRow 3 i.val [w0, w1, w2, w3, w4] =
      (if 30 ≤ w0.toNat ∧ w0.toNat ≤ w1.toNat ∧ w1.toNat ≤ 200 ∧ w2.toNat / 128 ≤ 16
          ∧ w2.toNat / 4 % 32 ≤ 16 ∧ w2.toNat % 4 ≤ 2 ∧ w3.toNat < 2048 then
        { s with tables := { s.tables with
          profile := s.tables.profile.set i ⟨w0, w1, w2, w3, w4⟩ } }
      else s.raise Counter.loadRefusals))
    ∧ (∀ i : Fin 64, s.storeRow 4 i.val [w0, w1, w2] =
      (if w0.toNat < 128 then
        { s with tables := { s.tables with registration := s.tables.registration.set i ⟨w0, w1, w2⟩ } }
      else s.raise Counter.loadRefusals))

/-- A valid division row takes effect whole in the event of its write (R163). It is stored; a change of its enable bit disables
or enables the port, a held release of a disabled port marked without words (R154, R155); a stall limit lowered below the time
already waited stalls the port as STALL does (R151); and with a changed lead the division's due rows are released as RELEASE
does, in list order, until none is due or one is held (R107, R122; that a row already due before the write is among them is
log 23: the model's choice). -/
def Obligations.DivisionRowWritten : Prop :=
  ∀ (s changed stalled : State) (d : Division) (row : DivisionRow), s.Running → row.valid = true →
    let stored : State := { s with tables := { s.tables with division := s.tables.division.set d row } }
    ((row.w0.toNat < 2048 ↔ s.ports[d].state = .off) ∧ changed = stored
      ∨ row.w0.toNat < 2048 ∧ s.ports[d].state ≠ .off ∧ s.held[d] = none ∧ changed = { stored with
        ports := s.ports.set d { s.ports[d] with
          state := .off, queue := [], credits := 0, owedAllOff := false
          waitingSince := none, offerDue := false } }
      ∨ row.w0.toNat < 2048 ∧ s.ports[d].state ≠ .off
        ∧ (∃ r : RowNumber, s.held[d] = some r ∧ changed = { stored.markReleased d r with
          held := s.held.set d none
          ports := s.ports.set d { s.ports[d] with
            state := .off, queue := [], credits := 0, owedAllOff := false
            waitingSince := none, offerDue := false } })
      ∨ 2048 ≤ row.w0.toNat ∧ s.ports[d].state = .off ∧ changed = { stored with
        divisions := s.divisions.set d DivisionRecord.silent
        ports := s.ports.set d { s.ports[d] with
          state := .active, queue := [], credits := 0, owedAllOff := true
          waitingSince := none, transmission := none, offerDue := false } }) →
    (s.tables.division[d].w2.toNat ≤ row.w2.toNat ∧ stalled = changed
      ∨ row.w2.toNat < s.tables.division[d].w2.toNat ∧ exec (.stall d) changed = .next stalled) →
    (row.w0.toNat % 2048 = s.tables.division[d].w0.toNat % 2048 →
      s.storeRow 2 d.val [row.w0, row.w1, row.w2] = stalled)
    ∧ (row.w0.toNat % 2048 ≠ s.tables.division[d].w0.toNat % 2048 →
      (∃ run : Nat → State, run 0 = stalled ∧ (∀ n, exec (.release d) (run n) = .next (run (n + 1)))
        ∧ s.storeRow 2 d.val [row.w0, row.w1, row.w2] = run stalled.rol.length)
      ∧ exec (.release d) (s.storeRow 2 d.val [row.w0, row.w1, row.w2])
        = .next (s.storeRow 2 d.val [row.w0, row.w1, row.w2]))

/-! ### Placement -/

/-- A malformed chord is counted in counter 4 in every follower state, and otherwise a chord in IDLE in counter 3; nothing
is placed (R28, R29). -/
def Obligations.ChordRefusedWhole : Prop :=
  ∀ (s : State) (base : Fin 50) (d1 d2 d3 d4 : Data12) (rest : List Handed), s.Running →
    s.handed = .chord base d1 d2 d3 d4 :: rest →
    (d2.toNat / 256 = 0 ∨ d2.toNat / 64 % 4 = 3 →
      exec .chordMessage s = .next { s with
        handed := rest, counters := (s.raise Counter.abortedOrMalformed).counters })
    ∧ (d2.toNat / 256 ≠ 0 → d2.toNat / 64 % 4 ≠ 3 → s.follower.mode = .idle →
      exec .chordMessage s = .next { s with
        handed := rest, counters := (s.raise Counter.noHymn).counters })

/-- An accepted chord takes its set sub-beats in ascending order, each at its position, in its row, with the chord's
codes, set and syllable flag; the earliest takes the gate mode, the latest the fermata flag (R21, R22, R27, R30, R32):
sub-beat t is set by bit 11 − t of D2, and bits 7..6 of D2 are the gate mode. Each cue is skipped as out of order,
skipped as tag in use, or filled at the tail of the list (R24, R31, R36, R69). -/
def Obligations.ChordPlacesItsSubBeats : Prop :=
  (∀ (s : State) (r : RowNumber) (c : CueRow),
     ((c.position : Int) ≤ s.highMark → s.placeCue r c = { s with
       counters := (s.raise Counter.outOfOrder).counters, flags := s.flags ||| 64 })
     ∧ (s.highMark < (c.position : Int) → s.cues[r].rowState ≠ .empty → s.placeCue r c = { s with
       counters := (s.raise Counter.tagInUse).counters, flags := s.flags ||| 32 })
     ∧ (s.highMark < (c.position : Int) → s.cues[r].rowState = .empty → s.placeCue r c = { s with
       cues := s.cues.set r c
       updateMarks := s.updateMarks.set r false
       rol := s.rol ++ [r]
       highMark := (c.position : Int)
       counters := ((s.raise Counter.cuesPlaced).raiseBy Counter.keysOrCodes
         ([c.voices.soprano, c.voices.alto, c.voices.tenor, c.voices.bass].countP (· = 63))).counters }))
  ∧ (∀ (s : State) (base : Fin 50) (d1 d2 d3 d4 : Data12) (rest : List Handed) (gate : GateMode)
       (sets : Fin 4 → Bool), s.Running →
       s.handed = .chord base d1 d2 d3 d4 :: rest →
       (d2.toNat / 64 % 4 = 0 ∧ gate = .none ∨ d2.toNat / 64 % 4 = 1 ∧ gate = .sound
         ∨ d2.toNat / 64 % 4 = 2 ∧ gate = .drop) →
       (∀ t : Fin 4, sets t = d2.getLsbD (11 - t.val)) → d2.toNat / 256 ≠ 0 → s.follower.mode ≠ .idle →
       exec .chordMessage s = .next ((([0, 1, 2, 3] : List (Fin 4)).filter sets).foldl
           (fun t sub => t.placeCue (extendedTag base sub) (chordCue gate d1 d2 d3 d4 sub))
           { s with handed := rest })
       ∧ (∀ sub : Fin 4, sets sub = true →
         (extendedTag base sub).val = base.val * 4 + sub.val
         ∧ ∃ first last : Bool,
           (first = true ↔ ∀ t : Fin 4, t < sub → sets t = false)
           ∧ (last = true ↔ ∀ t : Fin 4, sub < t → sets t = false)
           ∧ chordCue gate d1 d2 d3 d4 sub = {
             rowState := if first = true ∧ gate ≠ .none then .gated else .pending
             position := 4 * d1.toNat + sub.val
             voices := ⟨d3.extractLsb' 6 6, d3.extractLsb' 0 6, d4.extractLsb' 6 6, d4.extractLsb' 0 6⟩
             regSet := d2.extractLsb' 0 4
             syllable := d2.getLsbD 5
             fermata := last && d2.getLsbD 4
             gateMode := if first then gate else .none
             armed := none
             released := #v[false, false, false, false]
             eastMark := false
             westMark := false }))

/-- A LISTEN row whose defined predicted time plus W has passed becomes EMPTY, its other fields kept (R39, R40, R44).
What these words mean: d(q) is (q − Ba) × P / 64 rounded toward minus infinity and p(q) is Ta + d(q), defined for the
positions that the follower state gives (R43); W is P × k / 256 rounded down (R45). Any other row stays (log 2: the
model's choice). -/
def Obligations.ListenRowExpires : Prop :=
  (∀ (f : Follower) (q : Nat),
    64 * f.offset q ≤ ((q : Int) - (f.ba : Int)) * (f.period : Int)
    ∧ ((q : Int) - (f.ba : Int)) * (f.period : Int) < 64 * (f.offset q + 1)
    ∧ f.predicted q = f.ta + BitVec.ofInt 24 (f.offset q)
    ∧ 256 * f.window ≤ f.period * f.profile.k ∧ f.period * f.profile.k < 256 * (f.window + 1)
    ∧ (f.defines q = true ↔ f.mode = .lead ∨ f.mode = .follow
        ∨ (∃ z, f.mode = .freeze ∧ f.freeze = some z ∧ q ≤ z.position)
        ∨ (∃ l, f.mode = .starved ∧ f.lastReleased = some l ∧ q ≤ l)
        ∨ f.mode = .starved ∧ f.lastReleased = none ∧ q ≤ f.ba))
  ∧ (∀ (s : State) (r : RowNumber),
    (s.cues[r].rowState = .listen → s.follower.defines s.cues[r].position = true →
      s.follower.age ≤ s.follower.offset s.cues[r].position + (s.follower.window : Int)) →
    exec (.listenExpiry r) s = .next s)
  ∧ ∀ (s : State) (r : RowNumber), s.Running → s.cues[r].rowState = .listen →
    s.follower.defines s.cues[r].position = true →
    s.follower.offset s.cues[r].position + (s.follower.window : Int) < s.follower.age →
    exec (.listenExpiry r) s = .next { s with
      cues := s.cues.set r { s.cues[r] with rowState := .empty, armed := none } }

/-! ### The follower's commands and entries -/

/-- An accepted HYMN (R50, R51). The active profile is a copy of the row that bits 11..9 of D1 name, field by field, with
Pmin and Pmax (R46; 09, row layouts). A stored row's lead loft is 0, 1 or 2 (R164). -/
def Obligations.HymnAccepted : Prop :=
  ∀ (s : State) (d1 d2 : Data12) (rest : List Handed) (i : Fin 8) (row : ProfileRow) (lead : LeadLoft) (p : Profile),
    s.Running →
    s.handed = .hymn d1 d2 :: rest → s.follower.mode = .idle →
    d1.toNat / 32 % 16 ≤ 11 → d1.toNat % 2 = 0 → 30 ≤ d2.toNat → d2.toNat ≤ 200 →
    i.val = d1.toNat / 512 → row = s.tables.profile[i] →
    (row.w2.toNat % 4 = 0 ∧ lead = .east ∨ row.w2.toNat % 4 = 1 ∧ lead = .west
      ∨ row.w2.toNat % 4 = 2 ∧ lead = .either) →
    p = {
      bpmMin := row.w0.toNat % 256, bpmMax := row.w1.toNat % 256
      alpha := row.w2.toNat / 128, beta := row.w2.toNat / 4 % 32, leadLoft := lead
      k := row.w3.toNat / 256 % 8 + 1, engage := row.w3.toNat / 64 % 4 + 1
      silence := row.w3.toNat / 4 % 16 + 1, minStrength := row.w3.toNat % 4
      gate := row.w4.toNat / 256 + 1, fermata := row.w4.toNat / 16 % 16 + 1, starve := row.w4.toNat % 16 + 1
      pmin := 3840000 / (row.w1.toNat % 256), pmax := 3840000 / (row.w0.toNat % 256) } →
    exec .hymn s = .next { s with
      handed := rest
      highMark := -1
      follower := {
        mode := .countIn, ta := s.deviceTime, ba := 0, age := 0
        period := min (max (3840000 / d2.toNat) p.pmin) p.pmax
        profile := p, transposition := ((d1.toNat / 32 % 16 : Nat) : Int) - 6
        startingSet := d1.extractLsb' 1 4, prevUpdate := none, matchCount := 0
        lastMatch := s.deviceTime, lastReleased := none, freeze := none, lastFreeze := -1 } }

/-- Every refusal of a command raises counter 20 by one and changes nothing else (R49, R50, R53, R61, R86, R153, R176).
A message's event with no such message first in line changes nothing (log 2: the model's choice; log 5). -/
def Obligations.CommandsRefused : Prop :=
  (∀ s : State, ∀ c ∈ [Instr.chordMessage, .read, .hymn, .start, .stop, .gate, .flush, .clear],
    (∀ h rest, s.handed = h :: rest → h.event ≠ c) → exec c s = .next s)
  ∧ ∀ (s : State) (rest : List Handed) (d1 d2 : Data12) (h : Handed), s.Running → s.handed = h :: rest →
    (h = .hymn d1 d2 ∧ (s.follower.mode ≠ .idle ∨ 11 < d1.toNat / 32 % 16 ∨ d1.toNat % 2 = 1
        ∨ d2.toNat < 30 ∨ 200 < d2.toNat)
      ∨ h = .start d1 ∧ (s.rol = [] ∨ s.follower.mode ≠ .countIn ∧ s.follower.mode ≠ .starved)
      ∨ h = .stop ∧ s.follower.mode = .idle
      ∨ h = .gate ∧ (s.follower.mode = .idle ∨ s.follower.mode = .countIn ∨ s.follower.mode = .starved
        ∨ ∀ r ∈ s.rol, s.cues[r].rowState ≠ .gated)
      ∨ h = .flush d1 ∧ 16 ≤ d1.toNat
      ∨ h = .clear d1 ∧ (d1.toNat = 0 ∨ 4 ≤ d1.toNat)) →
    exec h.event s = .next { s with
      handed := rest, counters := (s.raise Counter.commandsRefused).counters }

/-- An accepted START anchors the clock on the head of the list and enters LEAD (R44, R53). -/
def Obligations.StartAccepted : Prop :=
  ∀ (s : State) (delay : Data12) (rest : List Handed) (head : RowNumber) (tail : List RowNumber), s.Running →
    s.handed = .start delay :: rest → s.follower.mode = .countIn ∨ s.follower.mode = .starved →
    s.rol = head :: tail →
    exec .start s = .next (State.armReached { s with
      handed := rest
      follower := { s.follower with
        mode := .lead
        ta := s.deviceTime + delay.setWidth 24
        ba := s.cues[head].position
        age := -(delay.toNat : Int)
        prevUpdate := some s.cues[head].position
        matchCount := 0 } })

/-- The four ports after STOP or starvation entry: held releases withdrawn, an ALL-OFF owed, queues and credits kept (R156). -/
def quietPorts (s : State) : Vector Port 4 :=
  Vector.ofFn fun d : Division =>
    if s.ports[d].state = .off then s.ports[d]
    else if s.ports[d].state = .waiting then
      { s.ports[d] with state := .active, waitingSince := none, offerDue := false, owedAllOff := true }
    else { s.ports[d] with owedAllOff := true }

/-- An accepted STOP (R41, R61, R113, R137, R156). -/
def Obligations.StopAccepted : Prop :=
  ∀ (s : State) (rest : List Handed), s.Running → s.handed = .stop :: rest → s.follower.mode ≠ .idle →
    exec .stop s = .next { s with
      handed := rest
      cues := s.cues.map fun c =>
        if c.rowState = .empty then c else { c with rowState := .empty, armed := none }
      rol := []
      follower := { s.follower with mode := .idle, freeze := none, matchCount := 0, prevUpdate := none }
      held := Vector.replicate 4 none
      divisions := Vector.replicate 4 ⟨none, ⟨none, none, none, none⟩, Vector.replicate 73 []⟩
      ports := quietPorts s }

/-- FOLLOW falls to LEAD when the silence span has passed (R55), and not before (R2, log 2: the model's choice). -/
def Obligations.SilenceFallsToLead : Prop :=
  (∀ s : State, (s.follower.mode = .follow → Time.diff s.deviceTime
      (s.follower.lastMatch + BitVec.ofNat 24 (s.follower.profile.silence * s.follower.period / 16)) ≤ 0) →
    exec .silenceFall s = .next s)
  ∧ ∀ s : State, s.Running → s.follower.mode = .follow →
    0 < Time.diff s.deviceTime
      (s.follower.lastMatch + BitVec.ofNat 24 (s.follower.profile.silence * s.follower.period / 16)) →
    exec .silenceFall s = .next { s with
      follower := { s.follower with mode := .lead, matchCount := 0 } }

/-- FREEZE is entered on the fermata row of lowest position that is reached (a row not EMPTY, with the fermata flag,
past the last freeze position, its predicted time reached), and the GATED rows after it lose their arm times (R56, R95).
With no row reached, or outside LEAD and FOLLOW, nothing changes (log 2: the model's choice). -/
def Obligations.FreezeEntered : Prop :=
  (∀ s : State, (s.follower.mode = .lead ∨ s.follower.mode = .follow → ∀ x : RowNumber,
      s.cues[x].rowState ≠ .empty → s.cues[x].fermata = true → s.follower.lastFreeze < (s.cues[x].position : Int) →
      s.follower.age < s.follower.offset s.cues[x].position) →
    exec .freezeEntry s = .next s)
  ∧ ∀ (s : State) (r : RowNumber) (q : Nat) (before : Running) (reached : RowNumber → Prop), s.Running →
    (s.follower.mode = .lead ∧ before = .lead ∨ s.follower.mode = .follow ∧ before = .follow) →
    (∀ x : RowNumber, reached x ↔ s.cues[x].rowState ≠ .empty ∧ s.cues[x].fermata = true
      ∧ s.follower.lastFreeze < (s.cues[x].position : Int)
      ∧ s.follower.offset s.cues[x].position ≤ s.follower.age) →
    q = s.cues[r].position → reached r →
    (∀ x : RowNumber, reached x → x ≠ r → q < s.cues[x].position) →
    exec .freezeEntry s = .next { s with
      cues := s.cues.map fun c => if c.rowState = .gated ∧ q < c.position then { c with armed := none } else c
      follower := { s.follower with
        mode := .freeze
        freeze := some ⟨q, s.deviceTime, before⟩
        lastFreeze := (q : Int) } }

/-- STARVED is entered when nothing waits and the starve deadline has passed (R59, R113, R137, R156), and not otherwise
(log 2: the model's choice). -/
def Obligations.StarvationEntered : Prop :=
  (∀ s : State, (s.follower.mode = .lead ∨ s.follower.mode = .follow →
      (∀ x ∈ s.rol, s.cues[x].rowState ≠ .pending ∧ s.cues[x].rowState ≠ .gated) →
      s.follower.age ≤ s.follower.offset (s.follower.lastReleased.getD s.follower.ba)
        + ((s.follower.profile.starve * s.follower.period / 16 : Nat) : Int)) →
    exec .starvationEntry s = .next s)
  ∧ ∀ (s : State) (r : Nat), s.Running → s.follower.mode = .lead ∨ s.follower.mode = .follow →
    (∀ x ∈ s.rol, s.cues[x].rowState ≠ .pending ∧ s.cues[x].rowState ≠ .gated) →
    r = s.follower.lastReleased.getD s.follower.ba →
    s.follower.offset r + ((s.follower.profile.starve * s.follower.period / 16 : Nat) : Int) < s.follower.age →
    exec .starvationEntry s = .next { s with
      follower := { s.follower with
        mode := .starved, matchCount := 0, lastFreeze := max s.follower.lastFreeze (r : Int) }
      held := Vector.replicate 4 none
      divisions := Vector.replicate 4 ⟨none, ⟨none, none, none, none⟩, Vector.replicate 73 []⟩
      ports := quietPorts s
      flags := s.flags ||| 2 }

/-! ### Gates and fermatas -/

/-- A follower's record re-anchored at `now` on position `q` (R44, R47). -/
def anchoredNow (s : State) (q : Nat) : Follower := { s.follower with ta := s.deviceTime, ba := q, age := 0 }

/-- GATE in LEAD or FOLLOW opens the earliest GATED row, armed or not (R87). In FREEZE, on a row at or before the freeze
position the freeze goes on (R93); on one after it the freeze ends (R97), and a count that meets the engage count on a
return to LEAD engages (R54, log 19: the model's reading). -/
def Obligations.GateOpensEarliestRow : Prop :=
  (∀ (s : State) (rest : List Handed) (r : RowNumber), s.Running → s.handed = .gate :: rest →
     s.follower.mode = .lead ∨ s.follower.mode = .follow → s.earliestGated = some r →
     exec .gate s = .next (State.armReached { s with
       handed := rest
       cues := s.cues.set r { s.cues[r] with rowState := .pending, armed := none }
       follower := anchoredNow s s.cues[r].position }))
  ∧ (∀ (s : State) (rest : List Handed) (r : RowNumber) (z : FreezeRecord), s.Running → s.handed = .gate :: rest →
       s.follower.mode = .freeze → s.follower.freeze = some z → s.earliestGated = some r →
       (s.cues[r].position ≤ z.position → exec .gate s = .next (State.armReached { s with
         handed := rest
         cues := s.cues.set r { s.cues[r] with rowState := .pending, armed := none }
         follower := anchoredNow s s.cues[r].position }))
       ∧ (z.position < s.cues[r].position → exec .gate s = .next (State.armReached { s with
         handed := rest
         cues := s.cues.set r { s.cues[r] with rowState := .pending, armed := none }
         follower := { anchoredNow s s.cues[r].position with
           prevUpdate := some s.cues[r].position
           freeze := none
           mode := if z.before = .lead ∧ s.follower.matchCount < s.follower.profile.engage then .lead
             else .follow } })))

/-- ARM arms the earliest GATED row, unarmed, once its predicted time is defined and reached, and otherwise changes
nothing (R83); a re-anchor does the same as the last thing in its own event (`armReached`: R47, R83). When the gate
deadline of the armed row passes, a gate-sound row opens (R89) and a gate-drop row is dropped (R90), with counter 13 and
GATE-EXPIRED, and the clock is re-anchored at now; with no armed row of that mode past its deadline (R84), nothing
changes (log 2: the model's choice). -/
def Obligations.GatedRowArmsAndExpires : Prop :=
  (∀ s : State,
     (∀ r : RowNumber, s.follower.mode = .lead ∨ s.follower.mode = .follow ∨ s.follower.mode = .freeze →
       s.earliestGated = some r → s.follower.defines s.cues[r].position = true →
       s.follower.offset s.cues[r].position ≤ s.follower.age → s.cues[r].armed = none →
       s.armReached = { s with cues := s.cues.set r { s.cues[r] with armed := some s.deviceTime } })
     ∧ ((∀ r : RowNumber, s.earliestGated = some r →
         s.follower.mode = .idle ∨ s.follower.mode = .countIn ∨ s.follower.mode = .starved
         ∨ s.follower.defines s.cues[r].position = false
         ∨ s.follower.age < s.follower.offset s.cues[r].position ∨ s.cues[r].armed.isSome = true) →
       s.armReached = s)
     ∧ (s.Running → exec .arm s = .next s.armReached)
     ∧ (∀ r : RowNumber, s.earliestGated = some r ↔
         s.rol.find? (fun x => decide (s.cues[x].rowState = .gated)) = some r))
  ∧ (∀ s : State,
       ((∀ (r : RowNumber) (t : Time), s.earliestGated = some r → s.cues[r].armed = some t →
           s.cues[r].gateMode = .sound → Time.diff s.deviceTime
             (t + BitVec.ofNat 24 (s.follower.profile.gate * s.follower.period / 16)) ≤ 0) →
         exec .gateSoundExpiry s = .next s)
       ∧ ((∀ (r : RowNumber) (t : Time), s.earliestGated = some r → s.cues[r].armed = some t →
           s.cues[r].gateMode = .drop → Time.diff s.deviceTime
             (t + BitVec.ofNat 24 (s.follower.profile.gate * s.follower.period / 16)) ≤ 0) →
         exec .gateDropExpiry s = .next s))
  ∧ (∀ (s : State) (r : RowNumber) (t : Time), s.Running → s.earliestGated = some r → s.cues[r].armed = some t →
       0 < Time.diff s.deviceTime
         (t + BitVec.ofNat 24 (s.follower.profile.gate * s.follower.period / 16)) →
       (s.cues[r].gateMode = .sound → exec .gateSoundExpiry s = .next (State.armReached { s with
         counters := (s.raise Counter.gateExpiries).counters
         flags := s.flags ||| 16
         cues := s.cues.set r { s.cues[r] with rowState := .pending, armed := none }
         follower := anchoredNow s s.cues[r].position }))
       ∧ (s.cues[r].gateMode = .drop → exec .gateDropExpiry s = .next (State.armReached { s with
         counters := (s.raise Counter.gateExpiries).counters
         flags := s.flags ||| 16
         cues := s.cues.set r { s.cues[r] with rowState := .empty, armed := none }
         rol := s.rol.erase r
         follower := anchoredNow s s.cues[r].position })))

/-- A fermata expiry re-anchors on the first row after the freeze position, or on the position after it, and enters LEAD
(R98; the list is the one of the moment of the expiry, log 22: the model's choice); before the fermata limit has passed
nothing changes (log 2: the model's choice). -/
def Obligations.FermataExpires : Prop :=
  (∀ s : State, (∀ z : FreezeRecord, s.follower.mode = .freeze → s.follower.freeze = some z →
      Time.diff s.deviceTime
        (z.start + BitVec.ofNat 24 (s.follower.profile.fermata * s.follower.period / 16)) ≤ 0) →
    exec .fermataExpiry s = .next s)
  ∧ ∀ (s : State) (z : FreezeRecord) (q : Nat), s.Running → s.follower.mode = .freeze → s.follower.freeze = some z →
    0 < Time.diff s.deviceTime
      (z.start + BitVec.ofNat 24 (s.follower.profile.fermata * s.follower.period / 16)) →
    ((∃ r, s.rol.find? (fun x => decide (z.position < s.cues[x].position)) = some r ∧ q = s.cues[r].position)
      ∨ (∀ x ∈ s.rol, s.cues[x].position ≤ z.position) ∧ q = z.position + 1) →
    exec .fermataExpiry s = .next (State.armReached { s with
      follower := { anchoredNow s q with
        prevUpdate := some q, matchCount := 0, freeze := none, mode := .lead } })

/-! ### Onsets -/

/-- Onsets screened out, counted in COUNT-IN, or unmatched in the other states (R64, R71, R76 to R79); and the adjusted
time and signed distance of an onset (R44, R63): decode time less offset and loft delay, and the anchor age less the
onset's lag and d(q). A lead onset is one of the lead loft, or of either (R65). -/
def Obligations.OnsetIgnoredOrUnmatched : Prop :=
  (∀ (s : State) (o : Value6) (l : Loft) (t : Time) (lead : Bool), s.Locked →
     l = (if o.toNat < 32 then .east else .west) → t = s.adjustedTime o →
     lead = s.follower.profile.leadLoft.admits l →
     (s.follower.mode = .idle ∨ o.toNat / 8 % 4 < s.follower.profile.minStrength →
       exec (.onset o) s = .next s)
     ∧ (s.follower.profile.minStrength ≤ o.toNat / 8 % 4 →
       (s.follower.mode = .countIn → exec (.onset o) s = .next (s.raise Counter.unmatchedOnsets))
       ∧ (s.follower.mode = .lead ∨ s.follower.mode = .follow → s.choose l t = none →
         exec (.onset o) s = .next { s with
           counters := (s.raise Counter.unmatchedOnsets).counters
           follower := { s.follower with matchCount := if lead then 0 else s.follower.matchCount } })
       ∧ (∀ z : FreezeRecord, s.follower.mode = .freeze → s.follower.freeze = some z →
         s.chooseFrozen l t z.position = none →
         lead = false ∨ (∀ x ∈ s.rol, z.position < s.cues[x].position → s.cues[x].syllable = true →
           s.cues[x].mark l = true) →
         exec (.onset o) s = .next (s.raise Counter.unmatchedOnsets))
       ∧ (s.follower.mode = .starved →
         lead = false ∨ (∀ x ∈ s.rol, s.cues[x].syllable = true → s.cues[x].mark l = true) →
         exec (.onset o) s = .next { s with
           counters := (s.raise Counter.unmatchedOnsets).counters
           follower := { s.follower with matchCount := if lead then 0 else s.follower.matchCount } })))
  ∧ (∀ (x : LeadLoft) (l : Loft), x.admits l = true ↔ x = .either ∨ x = .east ∧ l = .east ∨ x = .west ∧ l = .west)
  ∧ (∀ (s : State) (o : Value6) (r : RowNumber),
       s.adjustedTime o = s.deviceTime - BitVec.ofNat 24 (o.toNat % 8
         + (if o.toNat < 32 then s.tables.loft[0] else s.tables.loft[1]).toNat % 512)
       ∧ s.distance (s.adjustedTime o) r = s.follower.age
           - ((o.toNat % 8 + (if o.toNat < 32 then s.tables.loft[0] else s.tables.loft[1]).toNat % 512 : Nat) : Int)
           - ((s.cues[r].position : Int) - (s.follower.ba : Int)) * (s.follower.period : Int) / 64)

/-- The candidates of R66, and the choice of the nearest, the lower position on a tie (R67). In a state a run reaches the
choice is of one row. In FREEZE the choice is made in the same way among the candidates at or before the freeze
position (R76). -/
def Obligations.NearestCandidateChosen : Prop :=
  ∀ (s : State) (l : Loft) (t : Time),
    (∀ r : RowNumber, s.candidate l t r = true ↔
      s.cues[r].syllable = true ∧ s.cues[r].mark l = false
      ∧ ((s.cues[r].rowState = .pending ∨ s.cues[r].rowState = .releasing ∨ s.cues[r].rowState = .listen)
          ∧ (s.distance t r).natAbs ≤ s.follower.window
        ∨ s.cues[r].rowState = .gated ∧ -(s.follower.window : Int) ≤ s.distance t r
          ∧ s.rol.head? = some r)
      ∧ ¬ ∃ i j : Nat, i < j ∧ s.rol[j]? = some r
          ∧ ∃ g, s.rol[i]? = some g ∧ s.cues[g].rowState = .gated)
    ∧ (s.choose l t = none ↔ ∀ r : RowNumber, s.candidate l t r = false)
    ∧ (∀ r : RowNumber, s.choose l t = some r → s.candidate l t r = true
      ∧ (s.PositionsSound → ∀ q : RowNumber, s.candidate l t q = true → q ≠ r →
          (s.distance t r).natAbs < (s.distance t q).natAbs
          ∨ (s.distance t r).natAbs = (s.distance t q).natAbs ∧ s.cues[r].position < s.cues[q].position))
    ∧ (∀ f : Nat,
      (s.chooseFrozen l t f = none ↔ ∀ r : RowNumber, s.candidate l t r = true → f < s.cues[r].position)
      ∧ (∀ r : RowNumber, s.chooseFrozen l t f = some r → s.candidate l t r = true ∧ s.cues[r].position ≤ f
        ∧ (s.PositionsSound → ∀ q : RowNumber, s.candidate l t q = true → s.cues[q].position ≤ f → q ≠ r →
          (s.distance t r).natAbs < (s.distance t q).natAbs
          ∨ (s.distance t r).natAbs = (s.distance t q).natAbs ∧ s.cues[r].position < s.cues[q].position)))

/-- A lead onset matched to a PENDING, RELEASING or LISTEN row whose update mark is clear corrects the clock: the phase
(R73), the period as `correctedPeriod` gives it (R74), the bookkeeping and engagement (R54, R69, R70, R72, R75). -/
def Obligations.LeadOnsetCorrectsClock : Prop :=
  ∀ (s : State) (o : Value6) (l : Loft) (t ta : Time) (r : RowNumber) (n : Nat), s.Locked →
    l = (if o.toNat < 32 then .east else .west) → t = s.adjustedTime o →
    s.follower.mode = .lead ∨ s.follower.mode = .follow →
    s.follower.profile.minStrength ≤ o.toNat / 8 % 4 → s.follower.profile.leadLoft.admits l = true →
    s.choose l t = some r → s.cues[r].rowState ≠ .gated → s.updateMarks[r] = false →
    ta = s.follower.predicted s.cues[r].position
      + BitVec.ofInt 24 (Int.tdiv (s.distance t r * (s.follower.profile.alpha : Int)) 16) →
    n = min (s.follower.matchCount + 1) 4 →
    exec (.onset o) s = .next (State.armReached { s with
      cues := s.cues.set r (s.cues[r].setMark l)
      updateMarks := s.updateMarks.set r true
      counters := (s.raise Counter.leadMatches).counters
      follower := { s.follower with
        ta := ta
        ba := s.cues[r].position
        age := Time.diff s.deviceTime ta
        period := s.follower.correctedPeriod s.cues[r].position (s.distance t r)
        prevUpdate := some s.cues[r].position
        matchCount := n
        lastMatch := t
        mode := if s.follower.mode = .lead ∧ n < s.follower.profile.engage then .lead else .follow } })

/-- The period step is made only in FOLLOW over at least two positions, limited to P / 8 and clamped to the profile (R74). -/
def Obligations.PeriodStep : Prop :=
  ∀ (f : Follower) (m u : Nat) (e raw lim step : Int),
    (f.mode ≠ .follow → f.correctedPeriod m e = f.period)
    ∧ (f.prevUpdate = some u → (m : Int) - (u : Int) < 2 → f.correctedPeriod m e = f.period)
    ∧ (f.mode = .follow → f.prevUpdate = some u → 2 ≤ (m : Int) - (u : Int) →
      raw = Int.tdiv (4 * e * (f.profile.beta : Int)) ((m : Int) - (u : Int)) →
      lim = (f.period : Int) / 8 →
      step = (if lim < raw then lim else if raw < -lim then -lim else raw) →
      f.profile.pmin ≤ f.profile.pmax →
      (f.correctedPeriod m e : Int)
        = if (f.period : Int) + step < f.profile.pmin then (f.profile.pmin : Int)
          else if (f.profile.pmax : Int) < f.period + step then (f.profile.pmax : Int)
          else f.period + step)

/-- A lead onset that chooses a GATED row opens it and re-anchors the clock at its adjusted time (R85). -/
def Obligations.LeadOnsetOpensGate : Prop :=
  ∀ (s : State) (o : Value6) (l : Loft) (t : Time) (r : RowNumber) (n : Nat), s.Locked →
    l = (if o.toNat < 32 then .east else .west) → t = s.adjustedTime o →
    s.follower.mode = .lead ∨ s.follower.mode = .follow →
    s.follower.profile.minStrength ≤ o.toNat / 8 % 4 → s.follower.profile.leadLoft.admits l = true →
    s.choose l t = some r → s.cues[r].rowState = .gated → n = min (s.follower.matchCount + 1) 4 →
    exec (.onset o) s = .next (State.armReached { s with
      cues := s.cues.set r { s.cues[r].setMark l with rowState := .pending, armed := none }
      updateMarks := s.updateMarks.set r true
      counters := (s.raise Counter.leadMatches).counters
      follower := { s.follower with
        ta := t
        ba := s.cues[r].position
        age := Time.diff s.deviceTime t
        prevUpdate := some s.cues[r].position
        matchCount := n
        lastMatch := t
        mode := if s.follower.mode = .lead ∧ n < s.follower.profile.engage then .lead else .follow } })

/-- Onsets that only mark their row: non-lead onsets, a second lead onset at one row (R70), and every windowed match in
FREEZE (R76). A loft's mark is its own (R68). -/
def Obligations.OnsetOnlyMarks : Prop :=
  (∀ c : CueRow, c.mark .east = c.eastMark ∧ c.mark .west = c.westMark
    ∧ c.setMark .east = { c with eastMark := true } ∧ c.setMark .west = { c with westMark := true })
  ∧ ∀ (s : State) (o : Value6) (l : Loft) (t : Time) (r : RowNumber), s.Locked →
    l = (if o.toNat < 32 then .east else .west) → t = s.adjustedTime o →
    s.follower.profile.minStrength ≤ o.toNat / 8 % 4 →
    ((s.follower.mode = .lead ∨ s.follower.mode = .follow) ∧ s.choose l t = some r
        ∧ (s.follower.profile.leadLoft.admits l = false
          ∨ s.cues[r].rowState ≠ .gated ∧ s.updateMarks[r] = true)
      ∨ ∃ z, s.follower.mode = .freeze ∧ s.follower.freeze = some z ∧ s.chooseFrozen l t z.position = some r) →
    exec (.onset o) s = .next { s with
      cues := s.cues.set r (s.cues[r].setMark l)
      counters := (s.raise Counter.otherMatches).counters }

/-- A lead onset that takes the exit candidate ends the freeze (R77, R96) or the starvation (R79, R101). In STARVED the
candidate is the first syllable row on the list without the loft's mark. In FREEZE it is the first syllable row after the
freeze position when that carries no mark of the loft; when it does, and a later one does not, the onset takes the first
that does not or is unmatched, as the free value of log 10 has it. -/
def Obligations.LeadOnsetEndsWait : Prop :=
  ∀ (s ended : State) (o : Value6) (l : Loft) (t : Time) (r : RowNumber) (mode : Mode), s.Locked →
    l = (if o.toNat < 32 then .east else .west) → t = s.adjustedTime o →
    s.follower.profile.minStrength ≤ o.toNat / 8 % 4 → s.follower.profile.leadLoft.admits l = true →
    ended = State.armReached { s with
      cues := s.cues.set r (if s.cues[r].rowState = .gated then
        { s.cues[r].setMark l with rowState := .pending, armed := none } else s.cues[r].setMark l)
      updateMarks := s.updateMarks.set r true
      counters := (s.raise Counter.leadMatches).counters
      follower := { s.follower with
        ta := t
        ba := s.cues[r].position
        age := Time.diff s.deviceTime t
        prevUpdate := some s.cues[r].position
        matchCount := 1
        lastMatch := t
        freeze := none
        mode := if mode = .lead ∧ s.follower.profile.engage ≤ 1 then .follow else mode } } →
    (∀ z : FreezeRecord, s.follower.mode = .freeze → s.follower.freeze = some z →
      s.chooseFrozen l t z.position = none →
      (z.before = .lead ∧ mode = .lead ∨ z.before = .follow ∧ mode = .follow) →
      (s.rol.find? (fun x => decide (z.position < s.cues[x].position) && s.cues[x].syllable) = some r →
        s.cues[r].mark l = false → exec (.onset o) s = .next ended)
      ∧ (s.rol.find? (fun x => decide (z.position < s.cues[x].position) && s.cues[x].syllable
            && !s.cues[x].mark l) = some r →
        exec (.onset o) s = .next ended ∨ exec (.onset o) s = .next (s.raise Counter.unmatchedOnsets)))
    ∧ (s.follower.mode = .starved → mode = .lead →
      s.rol.find? (fun x => s.cues[x].syllable && !s.cues[x].mark l) = some r →
      exec (.onset o) s = .next ended)

/-! ### Releases -/

/-- What setting a release mark changes (R58, R114, R115). -/
def Obligations.ReleaseMarkSet : Prop :=
  ∀ (s : State) (d : Division) (r : RowNumber) (marks : Vector Bool 4) (q : Nat),
    marks = s.cues[r].released.set d true → q = s.cues[r].position →
    ((∃ e : Division, marks[e] = false) → s.markReleased d r = { s with
      cues := s.cues.set r { s.cues[r] with released := marks, rowState := .releasing }
      follower := { s.follower with lastReleased := some (max (s.follower.lastReleased.getD 0) q) } })
    ∧ ((∀ e : Division, marks[e] = true) → s.markReleased d r = { s with
      cues := s.cues.set r { s.cues[r] with released := marks, rowState := .listen }
      rol := s.rol.erase r
      follower := { s.follower with lastReleased := some (max (s.follower.lastReleased.getD 0) q) } })

/-- A release to an OFF port marks the row without words or record (R108); to a STALLED port it is applied without words
(R109). The row due to a division (R106) is the earliest row lacking its mark, in LEAD, FOLLOW or FREEZE, its time
defined, not GATED, its release time reached. -/
def Obligations.ReleaseWithoutWords : Prop :=
  (∀ (s : State) (d : Division) (r : RowNumber), s.Running → s.held[d] = none → s.dueRow d = some r →
     (s.ports[d].state = .off → exec (.release d) s = .next (s.markReleased d r))
     ∧ (s.ports[d].state = .stalled → exec (.release d) s = .next { s.markReleased d r with
       divisions := s.divisions.set d (s.computeCue d r).record
       counters := (s.raiseBy Counter.keysOrCodes (s.computeCue d r).dropped).counters }))
  ∧ (∀ (s : State) (d : Division) (r : RowNumber), s.dueRow d = some r ↔
       (s.follower.mode = .lead ∨ s.follower.mode = .follow ∨ s.follower.mode = .freeze)
       ∧ s.follower.defines s.cues[r].position = true
       ∧ s.rol.find? (fun x => !s.cues[x].released[d]) = some r
       ∧ s.cues[r].rowState ≠ .gated
       ∧ s.follower.offset s.cues[r].position - ((s.tables.division[d].w0.toNat % 2048 : Nat) : Int) ≤ s.follower.age)

/-- A release to an ACTIVE port enters whole when it fits (R110), late or not (R116); otherwise it is held (R111, R150).
With a release held (R107) or no row due (R106) RELEASE changes nothing (log 2: the model's choice). -/
def Obligations.ReleaseEntersOrIsHeld : Prop :=
  (∀ (s : State) (d : Division), s.held[d].isSome = true ∨ s.dueRow d = none → exec (.release d) s = .next s)
  ∧ ∀ (s : State) (d : Division) (r : RowNumber), s.Running → s.held[d] = none → s.dueRow d = some r →
    s.ports[d].state = .active →
    (s.ports[d].owedAllOff = false → (s.computeCue d r).run.length ≤ 12 - s.ports[d].queue.length →
      exec (.release d) s = .next { s.markReleased d r with
        divisions := s.divisions.set d (s.computeCue d r).record
        ports := s.ports.set d { s.ports[d] with queue := s.ports[d].queue ++ (s.computeCue d r).run }
        counters :=
          if s.follower.offset s.cues[r].position - ((s.tables.division[d].w0.toNat % 2048 : Nat) : Int)
              + (s.follower.window : Int) < s.follower.age then
            ((s.raiseBy Counter.keysOrCodes (s.computeCue d r).dropped).raise Counter.lateReleases).counters
          else (s.raiseBy Counter.keysOrCodes (s.computeCue d r).dropped).counters })
    ∧ (s.ports[d].owedAllOff = true ∨ 12 - s.ports[d].queue.length < (s.computeCue d r).run.length →
      exec (.release d) s = .next { s with
        held := s.held.set d (some r)
        ports := s.ports.set d { s.ports[d] with
          state := .waiting, waitingSince := some s.deviceTime, offerDue := false } })

/-- A held release offered after an event of R112 (log 6) enters when its run, computed afresh, fits, and the port
returns to ACTIVE (R112, R116, R150); otherwise it stays held. With no offer due nothing changes (log 2: the model's
choice). -/
def Obligations.HeldReleaseOffered : Prop :=
  (∀ (s : State) (d : Division), s.held[d] = none ∨ s.ports[d].state ≠ .waiting ∨ s.ports[d].offerDue = false →
    exec (.heldReleaseOffer d) s = .next s)
  ∧ ∀ (s : State) (d : Division) (r : RowNumber), s.Running → s.held[d] = some r → s.ports[d].state = .waiting →
    s.ports[d].offerDue = true →
    (s.ports[d].owedAllOff = false → (s.computeCue d r).run.length ≤ 12 - s.ports[d].queue.length →
      exec (.heldReleaseOffer d) s = .next { s.markReleased d r with
        held := s.held.set d none
        divisions := s.divisions.set d (s.computeCue d r).record
        ports := s.ports.set d { s.ports[d] with
          state := .active, waitingSince := none, offerDue := false
          queue := s.ports[d].queue ++ (s.computeCue d r).run }
        counters :=
          if s.follower.defines s.cues[r].position = true
              ∧ s.follower.offset s.cues[r].position - ((s.tables.division[d].w0.toNat % 2048 : Nat) : Int)
                + (s.follower.window : Int) < s.follower.age then
            ((s.raiseBy Counter.keysOrCodes (s.computeCue d r).dropped).raise Counter.lateReleases).counters
          else (s.raiseBy Counter.keysOrCodes (s.computeCue d r).dropped).counters })
    ∧ (s.ports[d].owedAllOff = true ∨ 12 - s.ports[d].queue.length < (s.computeCue d r).run.length →
      exec (.heldReleaseOffer d) s = .next { s with
        ports := s.ports.set d { s.ports[d] with offerDue := false } })

/-! ### The Registration Mapper -/

/-- A run is the stop words of a change of set and ceil(n / 3) KEYS words, of n key events, at most 24; at most ten words
(R131, R135, R136), packed three to a word in their order, the last word filled with null slots (R135). The new Voice
Register entry of a voice, and whether the voice is held (R132). -/
def Obligations.RunAtMostTenWords : Prop :=
  (∀ (row : RegistrationRow) (low high : Nat) (tr : Int) (set : BitVec 4) (codes : Voices Value6)
     (old : DivisionRecord), old.Sound →
     ∃ events : List KeyEvent,
       (applySteps row low high tr set codes old).run
         = (if old.currentSet = some set then [] else [.stopA row.w1, .stopB row.w2]) ++ packEvents events
       ∧ (events.filter fun e => !e.on).length ≤ 12 ∧ (events.filter fun e => e.on).length ≤ 12
       ∧ events.Pairwise (fun a b => a.on = b.on → a.key < b.key)
       ∧ events.Pairwise (fun a b => a.on = true → b.on = true)
       ∧ (packEvents events).length = (events.length + 2) / 3
       ∧ (∀ e ∈ events, if e.on then e.key ∈ (applySteps row low high tr set codes old).record.soundingKeys
           else e.key ∈ old.soundingKeys)
       ∧ (applySteps row low high tr set codes old).run.length ≤ 10)
  ∧ (∀ (row : RegistrationRow) (v : Voice) (code : Value6) (old : Option Value6),
       (row.plays v = false → newEntry row v code old = none ∧ voiceHeld row v code old = false)
       ∧ (row.plays v = true →
         (code = 0 ∨ code = 63 → newEntry row v code old = none ∧ voiceHeld row v code old = false)
         ∧ (code = 1 → newEntry row v code old = old ∧ voiceHeld row v code old = old.isSome)
         ∧ (2 ≤ code.toNat → code.toNat ≤ 62 →
           newEntry row v code old = some code ∧ voiceHeld row v code old = false)))
  ∧ (∀ (a b c : KeyEvent) (rest : List KeyEvent), packEvents [] = [] ∧ packEvents [a] = [.keys a none none]
       ∧ packEvents [a, b] = [.keys a (some b) none]
       ∧ packEvents (a :: b :: c :: rest) = .keys a (some b) (some c) :: packEvents rest)

/-- The record an application leaves (R127 to R129, R131, R133), the dropped keys (R128), and which keys have a key-off
and a key-on: a key is left alone when a holder of its new set is carried, its voice held and it in the old set (R133,
R134). What a release applies: the row of the effective set and the division, with its voice mask and octaves, the
division's compass as stored, the hymn's transposition, and the row's voice codes (R123, R124, R128, R130). -/
def Obligations.KeyMapAndKeyEvents : Prop :=
  (∀ (s : State) (d : Division) (r : RowNumber) (set : BitVec 4) (i : Fin 64),
    set.toNat = (s.cues[r].regSet.toNat + s.follower.startingSet.toNat) % 16 → i.val = set.toNat * 4 + d.val →
    s.computeCue d r = applySteps s.tables.registration[i] (s.tables.division[d].w1.toNat / 64)
      (72 - s.tables.division[d].w1.toNat % 64) s.follower.transposition set s.cues[r].voices s.divisions[d])
  ∧ (∀ row : RegistrationRow,
    row.plays .soprano = row.w0.getLsbD 6 ∧ row.plays .alto = row.w0.getLsbD 5 ∧ row.plays .tenor = row.w0.getLsbD 4
    ∧ row.plays .bass = row.w0.getLsbD 3 ∧ row.gives .unison = row.w0.getLsbD 2 ∧ row.gives .sub = row.w0.getLsbD 1
    ∧ row.gives .super = row.w0.getLsbD 0)
  ∧ ∀ (row : RegistrationRow) (low high : Nat) (tr : Int) (set : BitVec 4) (codes : Voices Value6)
    (old : DivisionRecord) (a : Application) (falls : Voice → Octave → Int → Prop),
    a = applySteps row low high tr set codes old →
    (∀ (v : Voice) (o : Octave) (x : Int), falls v o x ↔
      ∃ c, a.record.register.get v = some c ∧ row.plays v = true ∧ row.gives o = true
        ∧ x = (c.toNat : Int) - 2 + tr + (match o with | .unison => 0 | .sub => -12 | .super => 12)) →
    a.record.currentSet = some set
    ∧ (∀ v : Voice, a.record.register.get v = newEntry row v (codes.get v) (old.register.get v))
    ∧ (∀ (k : Fin 73) (h : Holder), h ∈ a.record.keyMap[k]
        ↔ falls h.voice h.octave k.val ∧ low ≤ k.val ∧ k.val ≤ high)
    ∧ (∀ K : List Int, K.Nodup →
        (∀ x : Int, x ∈ K ↔ (∃ v o, falls v o x) ∧ (x < (low : Int) ∨ (high : Int) < x)) → a.dropped = K.length)
    ∧ ∃ events : List KeyEvent,
        a.run = (if old.currentSet = some set then [] else [.stopA row.w1, .stopB row.w2]) ++ packEvents events
        ∧ ∀ k : Fin 73,
          (⟨false, k⟩ ∈ events ↔ old.keyMap[k] ≠ [] ∧ ∀ h ∈ a.record.keyMap[k],
            voiceHeld row h.voice (codes.get h.voice) (old.register.get h.voice) = true → h ∉ old.keyMap[k])
          ∧ (⟨true, k⟩ ∈ events ↔ a.record.keyMap[k] ≠ [] ∧ ∀ h ∈ a.record.keyMap[k],
            voiceHeld row h.voice (codes.get h.voice) (old.register.get h.voice) = true → h ∉ old.keyMap[k])

/-! ### Chest ports -/

/-- The owed ALL-OFF enters the tail of a queue with a free slot (R149); on a WAITING port the held release is then to
be offered (R112, log 6). With none owed, no free slot, or the port OFF or STALLED nothing changes (log 2: the model's
choice). -/
def Obligations.AllOffEnters : Prop :=
  (∀ (s : State) (d : Division), s.ports[d].owedAllOff = false ∨ 12 ≤ s.ports[d].queue.length
      ∨ s.ports[d].state = .off ∨ s.ports[d].state = .stalled →
    exec (.allOffEntry d) s = .next s)
  ∧ ∀ (s : State) (d : Division), s.Running → s.ports[d].owedAllOff = true → s.ports[d].queue.length < 12 →
    (s.ports[d].state = .active → exec (.allOffEntry d) s = .next { s with
      ports := s.ports.set d { s.ports[d] with queue := s.ports[d].queue ++ [.allOff], owedAllOff := false } })
    ∧ (s.ports[d].state = .waiting → exec (.allOffEntry d) s = .next { s with
      ports := s.ports.set d { s.ports[d] with
        queue := s.ports[d].queue ++ [.allOff], owedAllOff := false, offerDue := true } })

/-- The frame of a port's slot (R144): SYNC, the second half in transmission, the head word's first half, or FILL.
WORD_LEAVING makes this choice once in a slot (log 4), and DEVICE_TIME_ADVANCE where it has not been made: with no own event
outstanding no word is due, so the frame is SYNC, a second half or FILL. The bytes of a valve word (R143), its two halves, and
the symbols of SYNC (K0 K5), FILL (K4 K4) and an ALL-OFF (R144). -/
def Obligations.SlotFrameChosen : Prop :=
  (∀ (s : State) (d : Division) (f : OutFrame), s.ports[d].line.now = some f → exec (.wordLeaving d) s = .next s)
  ∧ (∀ s : State, s.Running → s.nextOwn = none → ∃ t : State, exec .deviceTimeAdvance s = .next t
      ∧ t = { s with
        deviceTime := s.deviceTime + 1
        follower := { s.follower with age := min (s.follower.age + 1) 67108863 }
        ports := t.ports, returnLine := t.returnLine, response := t.response, beaconHalf := t.beaconHalf }
      ∧ ∀ d : Division,
        (∀ f, s.ports[d].line.now = some f → t.ports[d] = { s.ports[d] with line := ⟨none, f⟩ })
        ∧ (s.ports[d].line.now = none →
          (s.deviceTime.toNat % 32 = 0 → t.ports[d] = { s.ports[d] with line := ⟨none, .sync⟩ })
          ∧ (s.deviceTime.toNat % 32 ≠ 0 →
            (∀ h, s.ports[d].transmission = some h →
              t.ports[d] = { s.ports[d] with transmission := none, line := ⟨none, .data h⟩ })
            ∧ (s.ports[d].transmission = none → t.ports[d] = { s.ports[d] with line := ⟨none, .fill⟩ }))))
  ∧ (∀ (s : State) (d : Division) (p : Port), s.Running → p = s.ports[d] → p.line.now = none →
     (s.deviceTime.toNat % 32 = 0 → exec (.wordLeaving d) s = .next { s with
       ports := s.ports.set d { p with line := ⟨some .sync, p.line.last⟩ } })
     ∧ (s.deviceTime.toNat % 32 ≠ 0 →
       (∀ h, p.transmission = some h → exec (.wordLeaving d) s = .next { s with
         ports := s.ports.set d { p with transmission := none, line := ⟨some (.data h), p.line.last⟩ } })
       ∧ (p.transmission = none →
         (∀ w rest, s.deviceTime.toNat % 32 ≠ 31 → p.state = .active ∨ p.state = .waiting →
           p.queue = w :: rest → 1 ≤ p.credits →
           exec (.wordLeaving d) s = .next { s with
             ports := s.ports.set d { p with
               queue := rest
               credits := p.credits - 1
               transmission := some w.secondHalf
               line := ⟨some (.data w.firstHalf), p.line.last⟩
               offerDue := decide (p.state = .waiting) || p.offerDue } })
         ∧ (s.deviceTime.toNat % 32 = 31 ∨ p.state = .off ∨ p.state = .stalled ∨ p.queue = [] ∨ p.credits = 0 →
           exec (.wordLeaving d) s = .next { s with
             ports := s.ports.set d { p with line := ⟨some .fill, p.line.last⟩ } }))))
  ∧ ((∀ w : ValveWord, w.firstHalf.toNat * 4096 + w.secondHalf.toNat = w.bits.toNat)
     ∧ (∀ e : KeyEvent, (eventByte (some e)).toNat = (if e.on then 128 else 0) + e.key.val)
     ∧ eventByte none = 0x7F
     ∧ (∀ (a : KeyEvent) (b c : Option KeyEvent), (ValveWord.keys a b c).bits.toNat
         = (eventByte (some a)).toNat * 65536 + (eventByte b).toNat * 256 + (eventByte c).toNat)
     ∧ (∀ ranks : Data12, (ValveWord.stopA ranks).bits.toNat = 0x60 * 65536 + ranks.toNat
         ∧ (ValveWord.stopB ranks).bits.toNat = 0x61 * 65536 + ranks.toNat)
     ∧ ValveWord.allOff.bits.toNat = 0x62 * 65536
     ∧ ValveWord.allOff.firstHalf.toNat = 1568 ∧ ValveWord.allOff.secondHalf.toNat = 0
     ∧ OutFrame.sync.symbols = (0x0F, 0xF0) ∧ OutFrame.fill.symbols = (0xCC, 0xCC)
     ∧ (OutFrame.data ValveWord.allOff.firstHalf).symbols = (valueSymbol 24, valueSymbol 32)
     ∧ (OutFrame.data ValveWord.allOff.secondHalf).symbols = (valueSymbol 0, valueSymbol 0))

/-- CREDIT n by port state, with overflow at 6 and stall recovery (R145, R146, R147, R152). A port without receive lock
takes none, and a value outside 1..6 is none (R145, log 17). On the lock alignment K0 K5 is a SYNC and K1 with a value 1..6
a CREDIT; every other pair of symbols, FILL among them, is no event (R145). -/
def Obligations.CreditTaken : Prop :=
  (∀ (d : Division) (al : Sys2Proof.Alignment) (a b : Symbol) (c : Instr), chestFrame d al a b = some c ↔
    a = 0x0F ∧ b = 0xF0 ∧ c = .chestSync d al
    ∨ a = 0x33 ∧ ∃ v : Value6, b.classify = .value v ∧ 1 ≤ v.toNat ∧ v.toNat ≤ 6 ∧ c = .credit d v)
  ∧ (∀ (s : State) (d : Division) (n : Value6), s.ports[d].rx.aligned = none ∨ n = 0 ∨ 6 < n.toNat →
    exec (.credit d n) s = .next s)
  ∧ ∀ (s : State) (d : Division) (n : Value6), s.Running → s.ports[d].rx.aligned.isSome = true →
    1 ≤ n.toNat → n.toNat ≤ 6 →
    (s.ports[d].state = .off → exec (.credit d n) s = .next s)
    ∧ (s.ports[d].state = .active ∨ s.ports[d].state = .waiting →
      (s.ports[d].credits + n.toNat ≤ 6 → exec (.credit d n) s = .next { s with
        ports := s.ports.set d { s.ports[d] with credits := s.ports[d].credits + n.toNat } })
      ∧ (6 < s.ports[d].credits + n.toNat → exec (.credit d n) s = .next { s with
        ports := s.ports.set d { s.ports[d] with credits := 6 }
        counters := (s.raise Counter.creditOverflows).counters
        flags := s.flags ||| 8 }))
    ∧ (s.ports[d].state = .stalled → exec (.credit d n) s = .next { s with
      divisions := s.divisions.set d ⟨none, ⟨none, none, none, none⟩, Vector.replicate 73 []⟩
      ports := s.ports.set d { s.ports[d] with
        state := .active, credits := n.toNat, queue := [], owedAllOff := true } })

/-- A WAITING port past its stall limit stalls, and its held release is applied without words (R109, R113, R151). When a
word has left, or the ALL-OFF entered, and the held release has not been offered since (log 6), the offer comes first:
if its run fits it enters and no stall occurs (R112, R157). Within the limit, or in another state, nothing changes (log
2: the model's choice). -/
def Obligations.PortStalls : Prop :=
  (∀ (s : State) (d : Division), (∀ t, s.ports[d].state = .waiting → s.ports[d].waitingSince = some t →
      Time.diff s.deviceTime (t + BitVec.ofNat 24 s.tables.division[d].w2.toNat) ≤ 0) →
    exec (.stall d) s = .next s)
  ∧ ∀ (s : State) (d : Division) (r : RowNumber) (t : Time), s.Running → s.ports[d].state = .waiting →
    s.held[d] = some r → s.ports[d].waitingSince = some t →
    0 < Time.diff s.deviceTime (t + BitVec.ofNat 24 s.tables.division[d].w2.toNat) →
    (s.ports[d].offerDue = true → s.ports[d].owedAllOff = false →
      (s.computeCue d r).run.length ≤ 12 - s.ports[d].queue.length →
      exec (.stall d) s = exec (.heldReleaseOffer d) s)
    ∧ (s.ports[d].offerDue = false ∨ s.ports[d].owedAllOff = true
        ∨ 12 - s.ports[d].queue.length < (s.computeCue d r).run.length →
      exec (.stall d) s = .next { s.markReleased d r with
        held := s.held.set d none
        divisions := s.divisions.set d (s.computeCue d r).record
        ports := s.ports.set d { s.ports[d] with
          state := .stalled, waitingSince := none, queue := [], credits := 0, offerDue := false }
        counters :=
          ((s.raiseBy Counter.keysOrCodes (s.computeCue d r).dropped).raise Counter.divisionStalls).counters
        flags := s.flags ||| 4 })

/-- The receive lock of a port: taken at 4 SYNCs, kept by the lock alignment, lost to a competing count of 2 or by the
48-frame-time limit, without count (R145). Without lock or within the limit RECEIVE_LOCK_LOSS changes nothing (log 2:
the model's choice). -/
def Obligations.ReceiveLock : Prop :=
  (∀ (s : State) (d : Division), (∀ b, s.ports[d].rx.aligned = some b →
      Time.diff s.deviceTime (s.ports[d].rx.lastSync + 48) ≤ 0) →
    exec (.receiveLockLoss d) s = .next s)
  ∧ ∀ (s : State) (d : Division) (a b : Sys2Proof.Alignment) (x : FrameLock) (c : Nat), s.Running →
    x = s.ports[d].rx → c = min (x.counts[a] + 1) 4 →
    (x.aligned = none → c < 4 → exec (.chestSync d a) s = .next { s with
      ports := s.ports.set d { s.ports[d] with rx := { x with counts := x.counts.set a c } } })
    ∧ (x.aligned = none → c = 4 → exec (.chestSync d a) s = .next { s with
      ports := s.ports.set d { s.ports[d] with
        rx := ⟨some a, (Vector.replicate 16 0).set a 4, s.deviceTime⟩ } })
    ∧ (x.aligned = some a → exec (.chestSync d a) s = .next { s with
      ports := s.ports.set d { s.ports[d] with
        rx := { x with counts := (Vector.replicate 16 0).set a c, lastSync := s.deviceTime } } })
    ∧ (x.aligned = some b → a ≠ b → c < 2 → exec (.chestSync d a) s = .next { s with
      ports := s.ports.set d { s.ports[d] with rx := { x with counts := x.counts.set a c } } })
    ∧ (x.aligned = some b → a ≠ b → 2 ≤ c → exec (.chestSync d a) s = .next { s with
      ports := s.ports.set d { s.ports[d] with
        rx := { x with aligned := none, counts := Vector.replicate 16 0 } } })
    ∧ (x.aligned = some b → 0 < Time.diff s.deviceTime (x.lastSync + 48) →
      exec (.receiveLockLoss d) s = .next { s with
        ports := s.ports.set d { s.ports[d] with
          rx := { x with aligned := none, counts := Vector.replicate 16 0 } } })

/-- An accepted FLUSH: each named division whose port is not OFF is flushed and silenced, the others are unchanged (R113,
R137, R153). -/
def Obligations.FlushNamedDivisions : Prop :=
  ∀ (s : State) (mask : Data12) (rest : List Handed), s.Running → s.handed = .flush mask :: rest →
    mask.toNat < 16 →
    exec .flush s = .next { s with
      handed := rest
      held := Vector.ofFn fun d : Division =>
        if mask.getLsbD d.val = true ∧ s.ports[d].state ≠ .off then none else s.held[d]
      divisions := Vector.ofFn fun d : Division =>
        if mask.getLsbD d.val = true ∧ s.ports[d].state ≠ .off then
          ⟨none, ⟨none, none, none, none⟩, Vector.replicate 73 []⟩ else s.divisions[d]
      ports := Vector.ofFn fun d : Division =>
        if mask.getLsbD d.val = true ∧ s.ports[d].state ≠ .off then
          { s.ports[d] with
            state := .active, queue := [], credits := 0, waitingSince := none
            owedAllOff := true, offerDue := false }
        else s.ports[d] }

/-! ### The return lane, counters and flags -/

/-- A number above 4095 in two DATA frames: ÷ 4096 and mod 4096 (R173). -/
def splitWord (n : Nat) : List Data12 := [BitVec.ofNat 12 (n / 4096), BitVec.ofNat 12 (n % 4096)]

/-- A READ is answered whole from the present state, or refused with counter 18 alone (R172, R173); every word's layout,
with a row's origin by its number (R22). -/
def Obligations.ReadAnsweredOrRefused : Prop :=
  ∀ (s : State) (p : Data12) (rest : List Handed) (target row : Nat), s.Running → s.handed = .read p :: rest →
    target = p.toNat / 256 → row = p.toNat % 256 →
    (s.response.isSome = true ∨ s.readWords target row = none →
      exec .read s = .next { s with
        handed := rest, counters := (s.raise Counter.readsRefused).counters })
    ∧ (∀ words : List Data12, s.response = none → s.readWords target row = some words →
      exec .read s = .next { s with
        handed := rest
        response := some {
          frames := .header (BitVec.ofNat 6 target) :: .data (BitVec.ofNat 12 row) :: words.map .data
          sent := 0 } })
    ∧ (∀ words : List Data12, s.readWords target row = some words ↔
      (target = 0 ∧ row = 0 ∧ words = [s.tables.control.w0, s.tables.control.w1])
      ∨ (target = 1 ∧ ∃ i : Fin 2, row = i.val ∧ words = [s.tables.loft[i]])
      ∨ (target = 2 ∧ ∃ i : Fin 4, row = i.val ∧ words =
          [s.tables.division[i].w0, s.tables.division[i].w1, s.tables.division[i].w2])
      ∨ (target = 3 ∧ ∃ i : Fin 8, row = i.val ∧ words =
          [s.tables.profile[i].w0, s.tables.profile[i].w1, s.tables.profile[i].w2, s.tables.profile[i].w3,
            s.tables.profile[i].w4])
      ∨ (target = 4 ∧ ∃ i : Fin 64, row = i.val ∧ words =
          [s.tables.registration[i].w0, s.tables.registration[i].w1, s.tables.registration[i].w2])
      ∨ (target = 5 ∧ row = 0 ∧ words =
          [BitVec.ofNat 12 (([.idle, .countIn, .lead, .follow, .freeze, .starved] : List Mode).idxOf s.follower.mode * 512
            + s.follower.matchCount * 64 + (if s.follower.freeze.isSome then 32 else 0))]
          ++ splitWord s.follower.period ++ splitWord s.follower.ta.toNat ++ splitWord s.follower.ba
          ++ splitWord ((s.follower.freeze.map FreezeRecord.position).getD 0))
      ∨ (target = 6 ∧ ∃ i : RowNumber, row = i.val ∧ words =
          [BitVec.ofNat 12
            (([.empty, .pending, .gated, .releasing, .listen] : List RowState).idxOf s.cues[i].rowState * 512
              + (if i.val < 192 then 0 else if i.val < 196 then 1 else 2) * 128
              + ([.none, .sound, .drop] : List GateMode).idxOf s.cues[i].gateMode * 32
              + (if s.cues[i].syllable then 16 else 0) + (if s.cues[i].fermata then 8 else 0)
              + (if s.cues[i].armed.isSome then 4 else 0) + (if s.updateMarks[i] then 2 else 0)),
           BitVec.ofNat 12
            ((if s.cues[i].released[3] then 2048 else 0) + (if s.cues[i].released[2] then 1024 else 0)
              + (if s.cues[i].released[1] then 512 else 0) + (if s.cues[i].released[0] then 256 else 0)
              + (if s.cues[i].westMark then 128 else 0) + (if s.cues[i].eastMark then 64 else 0)
              + s.cues[i].position / 4096 * 16 + s.cues[i].regSet.toNat),
           BitVec.ofNat 12 (s.cues[i].position % 4096),
           BitVec.ofNat 12 (s.cues[i].voices.soprano.toNat * 64 + s.cues[i].voices.alto.toNat),
           BitVec.ofNat 12 (s.cues[i].voices.tenor.toNat * 64 + s.cues[i].voices.bass.toNat)]
          ++ splitWord ((s.cues[i].armed.map BitVec.toNat).getD 0))
      ∨ (target = 7 ∧ (∃ i : Fin 5, ∃ a b c d : Counter, row = i.val ∧ a.val = 4 * i.val
            ∧ b.val = 4 * i.val + 1 ∧ c.val = 4 * i.val + 2 ∧ d.val = 4 * i.val + 3
            ∧ words = [s.counters[a], s.counters[b], s.counters[c], s.counters[d]])
          ∨ target = 7 ∧ row = 5 ∧ words = [s.counters[(20 : Counter)], 0, 0, 0])
      ∨ (target = 8 ∧ ∃ i : Division, row = i.val ∧ words =
          [BitVec.ofNat 12
            (([.off, .active, .waiting, .stalled] : List PortState).idxOf s.ports[i].state * 1024
              + s.ports[i].queue.length * 64 + s.ports[i].credits * 8 + (if s.ports[i].owedAllOff then 4 else 0)),
           BitVec.ofNat 12 ((s.divisions[i].currentSet.map fun c => 16 + c.toNat).getD 0)])
      ∨ (target = 9 ∧ row = 0 ∧ words = [s.flags.setWidth 12]))

/-- CLEAR 1, 2 and 3 (R176). Counters saturate at 4095, and a raise changes no other counter (R174); a flag is set
whatever it was (R175), and ALERT_n is low exactly while a set flag is in the mask of a device that runs (R169, R175).
The counters' numbers and the flags' bits (R174, R175). -/
def Obligations.CountersAndFlags : Prop :=
  ([Counter.cuesPlaced, Counter.tagInUse, Counter.outOfOrder, Counter.noHymn, Counter.abortedOrMalformed,
     Counter.unexpectedData, Counter.damagedFrames, Counter.corruptedSyncs, Counter.lostOnsets, Counter.leadMatches,
     Counter.otherMatches, Counter.unmatchedOnsets, Counter.lateReleases, Counter.gateExpiries, Counter.keysOrCodes,
     Counter.creditOverflows, Counter.lockLosses, Counter.loadRefusals, Counter.readsRefused, Counter.divisionStalls,
     Counter.commandsRefused] = List.finRange 21
   ∧ ([.lockLost, .starved, .stall, .creditOverflow, .gateExpired, .tagInUse, .outOfOrder] : List AlertFlag).map
       AlertFlag.bit = [0, 1, 2, 3, 4, 5, 6]
   ∧ ∀ (s : State) (f : AlertFlag), s.flag f = s.flags.getLsbD f.bit)
  ∧ (∀ (s : State) (p : Data12) (rest : List Handed), s.Running → s.handed = .clear p :: rest →
     (p = 1 → exec .clear s = .next { s with handed := rest, counters := Vector.replicate 21 0 })
     ∧ (p = 2 → exec .clear s = .next { s with handed := rest, flags := 0 })
     ∧ (p = 3 → exec .clear s = .next { s with
       handed := rest, counters := Vector.replicate 21 0, flags := 0 }))
  ∧ ((∀ (s : State) (c k : Counter), (s.raise c).counters[k].toNat
         = if k = c then min (s.counters[k].toNat + 1) 4095 else s.counters[k].toNat)
     ∧ (∀ (s : State) (f g : AlertFlag), (s.setFlag f).flag g = (decide (g = f) || s.flag g))
     ∧ (∀ s : State, s.alertLow = true ↔ s.Running
         ∧ ∃ f : AlertFlag, s.flag f = true ∧ s.tables.control.w1.getLsbD f.bit = true))

/-- The frame of a slot on RET_OUT (R170): SYNC; the pending half of a beacon; the next frame of a response, with the
last of which the buffer becomes empty; a beacon, whose first frame gives the follower state, the lock, the alert and
any stalled port, and whose half gives the free rows and the list length (R171); or FILL. BEACON makes this choice
while no response is due, RESPONSE_COMPLETE with the last frame of one, and DEVICE_TIME_ADVANCE where none has been
made (log 4); once the slot's frame is chosen, or where a response is due or its last frame is not, they change
nothing (log 2: the model's choice). With no own event outstanding (log 3) DEVICE_TIME_ADVANCE ends the slot with the
frame chosen, or with this choice, whatever the chest lines carry (O48 gives those). SYNC is K0 K5, FILL K4 K4, a
beacon's first frame K4 and its value, a response's header K3 and its target (R170 to R172). -/
def Obligations.BeaconAndResponse : Prop :=
  (∀ s : State,
     (s.returnLine.now.isSome = true ∨ s.response.isSome = true → exec .beacon s = .next s)
     ∧ (s.returnLine.now.isSome = true ∨ s.deviceTime.toNat % 32 = 0 ∨ s.beaconHalf.isSome = true
         ∨ (∀ r, s.response = some r → r.sent + 1 ≠ r.frames.length) →
       exec .responseComplete s = .next s))
  ∧ (∀ s : State,
     (s.deviceTime.toNat % 32 = 0 → s.chooseReturn = { s with returnLine := ⟨some .sync, s.returnLine.last⟩ })
     ∧ (s.deviceTime.toNat % 32 ≠ 0 →
       (∀ w : Data12, s.beaconHalf = some w → s.chooseReturn = { s with
         returnLine := ⟨some (.data w), s.returnLine.last⟩, beaconHalf := none })
       ∧ (∀ (sent rest : List OutFrame) (f : OutFrame), s.beaconHalf = none →
         s.response = some ⟨sent ++ f :: rest, sent.length⟩ → s.chooseReturn = { s with
           returnLine := ⟨some f, s.returnLine.last⟩
           response := if rest = [] then none else some ⟨sent ++ f :: rest, sent.length + 1⟩ })
       ∧ (s.beaconHalf = none → s.response = none →
         (s.deviceTime.toNat % 32 = 31 → s.chooseReturn = { s with returnLine := ⟨some .fill, s.returnLine.last⟩ })
         ∧ (s.deviceTime.toNat % 32 ≠ 31 → s.chooseReturn = { s with
           returnLine := ⟨some (.beacon (BitVec.ofNat 6
             (([.idle, .countIn, .lead, .follow, .freeze, .starved] : List Mode).idxOf s.follower.mode * 8
               + (if s.nave.aligned.isSome then 4 else 0) + (if s.alertLow then 2 else 0)
               + (if ∃ d : Division, s.ports[d].state = .stalled then 1 else 0)))), s.returnLine.last⟩
           beaconHalf := some (BitVec.ofNat 12
             ((allRows.countP fun r => decide (s.cues[r].rowState = .empty)) * 16 + s.rol.length / 16)) }))))
  ∧ (∀ s : State, s.Running → s.returnLine.now = none → s.response = none →
       exec .beacon s = .next s.chooseReturn)
  ∧ (∀ (s : State) (sent : List OutFrame) (f : OutFrame), s.Running → s.returnLine.now = none →
       s.beaconHalf = none → s.deviceTime.toNat % 32 ≠ 0 → s.response = some ⟨sent ++ [f], sent.length⟩ →
       exec .responseComplete s = .next s.chooseReturn)
  ∧ (∀ (s : State) (f : Division → OutFrame) (g : OutFrame), s.Running → s.nextOwn = none →
       (∀ d : Division, s.ports[d].line.now = some (f d)) → s.returnLine.now = none →
       s.chooseReturn.returnLine.now = some g →
       exec .deviceTimeAdvance s = .next { s.chooseReturn with
         deviceTime := s.deviceTime + 1
         follower := { s.follower with age := min (s.follower.age + 1) 67108863 }
         ports := Vector.ofFn fun d : Division => { s.ports[d] with line := ⟨none, f d⟩ }
         returnLine := ⟨none, g⟩ })
  ∧ (∀ s : State, s.Running → s.nextOwn = none → ∃ t : State, exec .deviceTimeAdvance s = .next t
       ∧ (∀ g, s.returnLine.now = some g → t = { s with
         deviceTime := s.deviceTime + 1
         follower := { s.follower with age := min (s.follower.age + 1) 67108863 }
         ports := t.ports
         returnLine := ⟨none, g⟩ })
       ∧ (∀ g, s.returnLine.now = none → s.chooseReturn.returnLine.now = some g → t = { s.chooseReturn with
         deviceTime := s.deviceTime + 1
         follower := { s.follower with age := min (s.follower.age + 1) 67108863 }
         ports := t.ports
         returnLine := ⟨none, g⟩ }))
  ∧ (OutFrame.sync.symbols = (0x0F, 0xF0) ∧ OutFrame.fill.symbols = (0xCC, 0xCC)
     ∧ ∀ v : Value6, (OutFrame.beacon v).symbols = (0xCC, valueSymbol v)
       ∧ (OutFrame.header v).symbols = (0xC3, valueSymbol v))

/-! ### Invariants -/

/-- The reset state has every invariant below (log 9: RESET_n is low in it). -/
def Obligations.InvariantsAtReset : Prop :=
  State.reset.PortsSound ∧ State.reset.ClockSound ∧ State.reset.RecordsSound ∧ State.reset.CuesSound

/-- Ports keep their credits in 0..6 and queues in 12 words, WAITING goes with a held release and a waiting-since time, and
a STALLED or OFF port holds nothing (R104, R142, R146, R148, R149). -/
def Obligations.PortsStaySound : Prop :=
  ∀ s t : State, s.PortsSound → step s = .next t → t.PortsSound

/-- Every stored row stays one that passed its table's check (R168), and the follower keeps its ranges: the match count,
FREEZE with its record, the anchor age, Pmin ≤ Pmax and the period between them (R42, R44, R46, R57). -/
def Obligations.ClockStaysSound : Prop :=
  ∀ s t : State, s.ClockSound → step s = .next t → t.ClockSound

/-- Division records keep pitch codes 2..62, at most twelve sounding keys, and silence without a current set (R126, R129). -/
def Obligations.RecordsStaySound : Prop :=
  ∀ s t : State, s.RecordsSound → step s = .next t → t.RecordsSound

/-- The Cue Table, the Release Order List, the marks and the held releases stay in agreement (R25, R33, R35, R49, R82, R104,
R114). -/
def Obligations.CuesStaySound : Prop :=
  ∀ s t : State, s.CuesSound → step s = .next t → t.CuesSound
end

