-- ==== Sys2Proof/Laws/State.lean ====
section
/-!
SUPPORT. What each named update of State does to each field, one lemma a field.
-/

namespace Sys2Proof.Machine

variable (s : State)

/-! ### raiseBy -/

@[simp] theorem State.raiseBy_resetHeld (c : Counter) (n : Nat) : (s.raiseBy c n).resetHeld = s.resetHeld := rfl
@[simp] theorem State.raiseBy_deviceTime (c : Counter) (n : Nat) : (s.raiseBy c n).deviceTime = s.deviceTime := rfl
@[simp] theorem State.raiseBy_partAddress (c : Counter) (n : Nat) : (s.raiseBy c n).partAddress = s.partAddress := rfl
@[simp] theorem State.raiseBy_nave (c : Counter) (n : Nat) : (s.raiseBy c n).nave = s.nave := rfl
@[simp] theorem State.raiseBy_assembly (c : Counter) (n : Nat) : (s.raiseBy c n).assembly = s.assembly := rfl
@[simp] theorem State.raiseBy_handed (c : Counter) (n : Nat) : (s.raiseBy c n).handed = s.handed := rfl
@[simp] theorem State.raiseBy_cues (c : Counter) (n : Nat) : (s.raiseBy c n).cues = s.cues := rfl
@[simp] theorem State.raiseBy_updateMarks (c : Counter) (n : Nat) : (s.raiseBy c n).updateMarks = s.updateMarks := rfl
@[simp] theorem State.raiseBy_rol (c : Counter) (n : Nat) : (s.raiseBy c n).rol = s.rol := rfl
@[simp] theorem State.raiseBy_highMark (c : Counter) (n : Nat) : (s.raiseBy c n).highMark = s.highMark := rfl
@[simp] theorem State.raiseBy_follower (c : Counter) (n : Nat) : (s.raiseBy c n).follower = s.follower := rfl
@[simp] theorem State.raiseBy_held (c : Counter) (n : Nat) : (s.raiseBy c n).held = s.held := rfl
@[simp] theorem State.raiseBy_divisions (c : Counter) (n : Nat) : (s.raiseBy c n).divisions = s.divisions := rfl
@[simp] theorem State.raiseBy_ports (c : Counter) (n : Nat) : (s.raiseBy c n).ports = s.ports := rfl
@[simp] theorem State.raiseBy_tables (c : Counter) (n : Nat) : (s.raiseBy c n).tables = s.tables := rfl
@[simp] theorem State.raiseBy_response (c : Counter) (n : Nat) : (s.raiseBy c n).response = s.response := rfl
@[simp] theorem State.raiseBy_beaconHalf (c : Counter) (n : Nat) : (s.raiseBy c n).beaconHalf = s.beaconHalf := rfl
@[simp] theorem State.raiseBy_returnLine (c : Counter) (n : Nat) : (s.raiseBy c n).returnLine = s.returnLine := rfl
@[simp] theorem State.raiseBy_counters (c : Counter) (n : Nat) :
    (s.raiseBy c n).counters = s.counters.set c (saturatingAdd s.counters[c] n) := rfl
@[simp] theorem State.raiseBy_flags (c : Counter) (n : Nat) : (s.raiseBy c n).flags = s.flags := rfl
@[simp] theorem State.raiseBy_pending (c : Counter) (n : Nat) : (s.raiseBy c n).pending = s.pending := rfl

/-! ### raise -/

@[simp] theorem State.raise_resetHeld (c : Counter) : (s.raise c).resetHeld = s.resetHeld := rfl
@[simp] theorem State.raise_deviceTime (c : Counter) : (s.raise c).deviceTime = s.deviceTime := rfl
@[simp] theorem State.raise_partAddress (c : Counter) : (s.raise c).partAddress = s.partAddress := rfl
@[simp] theorem State.raise_nave (c : Counter) : (s.raise c).nave = s.nave := rfl
@[simp] theorem State.raise_assembly (c : Counter) : (s.raise c).assembly = s.assembly := rfl
@[simp] theorem State.raise_handed (c : Counter) : (s.raise c).handed = s.handed := rfl
@[simp] theorem State.raise_cues (c : Counter) : (s.raise c).cues = s.cues := rfl
@[simp] theorem State.raise_updateMarks (c : Counter) : (s.raise c).updateMarks = s.updateMarks := rfl
@[simp] theorem State.raise_rol (c : Counter) : (s.raise c).rol = s.rol := rfl
@[simp] theorem State.raise_highMark (c : Counter) : (s.raise c).highMark = s.highMark := rfl
@[simp] theorem State.raise_follower (c : Counter) : (s.raise c).follower = s.follower := rfl
@[simp] theorem State.raise_held (c : Counter) : (s.raise c).held = s.held := rfl
@[simp] theorem State.raise_divisions (c : Counter) : (s.raise c).divisions = s.divisions := rfl
@[simp] theorem State.raise_ports (c : Counter) : (s.raise c).ports = s.ports := rfl
@[simp] theorem State.raise_tables (c : Counter) : (s.raise c).tables = s.tables := rfl
@[simp] theorem State.raise_response (c : Counter) : (s.raise c).response = s.response := rfl
@[simp] theorem State.raise_beaconHalf (c : Counter) : (s.raise c).beaconHalf = s.beaconHalf := rfl
@[simp] theorem State.raise_returnLine (c : Counter) : (s.raise c).returnLine = s.returnLine := rfl
@[simp] theorem State.raise_counters (c : Counter) :
    (s.raise c).counters = s.counters.set c (saturatingAdd s.counters[c] 1) := rfl
@[simp] theorem State.raise_flags (c : Counter) : (s.raise c).flags = s.flags := rfl
@[simp] theorem State.raise_pending (c : Counter) : (s.raise c).pending = s.pending := rfl

/-! ### setFlag -/

@[simp] theorem State.setFlag_resetHeld (f : AlertFlag) : (s.setFlag f).resetHeld = s.resetHeld := rfl
@[simp] theorem State.setFlag_deviceTime (f : AlertFlag) : (s.setFlag f).deviceTime = s.deviceTime := rfl
@[simp] theorem State.setFlag_partAddress (f : AlertFlag) : (s.setFlag f).partAddress = s.partAddress := rfl
@[simp] theorem State.setFlag_nave (f : AlertFlag) : (s.setFlag f).nave = s.nave := rfl
@[simp] theorem State.setFlag_assembly (f : AlertFlag) : (s.setFlag f).assembly = s.assembly := rfl
@[simp] theorem State.setFlag_handed (f : AlertFlag) : (s.setFlag f).handed = s.handed := rfl
@[simp] theorem State.setFlag_cues (f : AlertFlag) : (s.setFlag f).cues = s.cues := rfl
@[simp] theorem State.setFlag_updateMarks (f : AlertFlag) : (s.setFlag f).updateMarks = s.updateMarks := rfl
@[simp] theorem State.setFlag_rol (f : AlertFlag) : (s.setFlag f).rol = s.rol := rfl
@[simp] theorem State.setFlag_highMark (f : AlertFlag) : (s.setFlag f).highMark = s.highMark := rfl
@[simp] theorem State.setFlag_follower (f : AlertFlag) : (s.setFlag f).follower = s.follower := rfl
@[simp] theorem State.setFlag_held (f : AlertFlag) : (s.setFlag f).held = s.held := rfl
@[simp] theorem State.setFlag_divisions (f : AlertFlag) : (s.setFlag f).divisions = s.divisions := rfl
@[simp] theorem State.setFlag_ports (f : AlertFlag) : (s.setFlag f).ports = s.ports := rfl
@[simp] theorem State.setFlag_tables (f : AlertFlag) : (s.setFlag f).tables = s.tables := rfl
@[simp] theorem State.setFlag_response (f : AlertFlag) : (s.setFlag f).response = s.response := rfl
@[simp] theorem State.setFlag_beaconHalf (f : AlertFlag) : (s.setFlag f).beaconHalf = s.beaconHalf := rfl
@[simp] theorem State.setFlag_returnLine (f : AlertFlag) : (s.setFlag f).returnLine = s.returnLine := rfl
@[simp] theorem State.setFlag_counters (f : AlertFlag) : (s.setFlag f).counters = s.counters := rfl
@[simp] theorem State.setFlag_flags (f : AlertFlag) :
    (s.setFlag f).flags = s.flags ||| BitVec.ofNat 7 (2 ^ f.bit) := rfl
@[simp] theorem State.setFlag_pending (f : AlertFlag) : (s.setFlag f).pending = s.pending := rfl

/-! ### setFollower -/

@[simp] theorem State.setFollower_resetHeld (f : Follower) : (s.setFollower f).resetHeld = s.resetHeld := rfl
@[simp] theorem State.setFollower_deviceTime (f : Follower) : (s.setFollower f).deviceTime = s.deviceTime := rfl
@[simp] theorem State.setFollower_partAddress (f : Follower) : (s.setFollower f).partAddress = s.partAddress := rfl
@[simp] theorem State.setFollower_nave (f : Follower) : (s.setFollower f).nave = s.nave := rfl
@[simp] theorem State.setFollower_assembly (f : Follower) : (s.setFollower f).assembly = s.assembly := rfl
@[simp] theorem State.setFollower_handed (f : Follower) : (s.setFollower f).handed = s.handed := rfl
@[simp] theorem State.setFollower_cues (f : Follower) : (s.setFollower f).cues = s.cues := rfl
@[simp] theorem State.setFollower_updateMarks (f : Follower) : (s.setFollower f).updateMarks = s.updateMarks := rfl
@[simp] theorem State.setFollower_rol (f : Follower) : (s.setFollower f).rol = s.rol := rfl
@[simp] theorem State.setFollower_highMark (f : Follower) : (s.setFollower f).highMark = s.highMark := rfl
@[simp] theorem State.setFollower_follower (f : Follower) : (s.setFollower f).follower = f := rfl
@[simp] theorem State.setFollower_held (f : Follower) : (s.setFollower f).held = s.held := rfl
@[simp] theorem State.setFollower_divisions (f : Follower) : (s.setFollower f).divisions = s.divisions := rfl
@[simp] theorem State.setFollower_ports (f : Follower) : (s.setFollower f).ports = s.ports := rfl
@[simp] theorem State.setFollower_tables (f : Follower) : (s.setFollower f).tables = s.tables := rfl
@[simp] theorem State.setFollower_response (f : Follower) : (s.setFollower f).response = s.response := rfl
@[simp] theorem State.setFollower_beaconHalf (f : Follower) : (s.setFollower f).beaconHalf = s.beaconHalf := rfl
@[simp] theorem State.setFollower_returnLine (f : Follower) : (s.setFollower f).returnLine = s.returnLine := rfl
@[simp] theorem State.setFollower_counters (f : Follower) : (s.setFollower f).counters = s.counters := rfl
@[simp] theorem State.setFollower_flags (f : Follower) : (s.setFollower f).flags = s.flags := rfl
@[simp] theorem State.setFollower_pending (f : Follower) : (s.setFollower f).pending = s.pending := rfl

/-! ### setRow -/

@[simp] theorem State.setRow_resetHeld (r : RowNumber) (c : CueRow) : (s.setRow r c).resetHeld = s.resetHeld := rfl
@[simp] theorem State.setRow_deviceTime (r : RowNumber) (c : CueRow) : (s.setRow r c).deviceTime = s.deviceTime := rfl
@[simp] theorem State.setRow_partAddress (r : RowNumber) (c : CueRow) :
    (s.setRow r c).partAddress = s.partAddress := rfl
@[simp] theorem State.setRow_nave (r : RowNumber) (c : CueRow) : (s.setRow r c).nave = s.nave := rfl
@[simp] theorem State.setRow_assembly (r : RowNumber) (c : CueRow) : (s.setRow r c).assembly = s.assembly := rfl
@[simp] theorem State.setRow_handed (r : RowNumber) (c : CueRow) : (s.setRow r c).handed = s.handed := rfl
@[simp] theorem State.setRow_cues (r : RowNumber) (c : CueRow) : (s.setRow r c).cues = s.cues.set r c := rfl
@[simp] theorem State.setRow_updateMarks (r : RowNumber) (c : CueRow) :
    (s.setRow r c).updateMarks = s.updateMarks := rfl
@[simp] theorem State.setRow_rol (r : RowNumber) (c : CueRow) : (s.setRow r c).rol = s.rol := rfl
@[simp] theorem State.setRow_highMark (r : RowNumber) (c : CueRow) : (s.setRow r c).highMark = s.highMark := rfl
@[simp] theorem State.setRow_follower (r : RowNumber) (c : CueRow) : (s.setRow r c).follower = s.follower := rfl
@[simp] theorem State.setRow_held (r : RowNumber) (c : CueRow) : (s.setRow r c).held = s.held := rfl
@[simp] theorem State.setRow_divisions (r : RowNumber) (c : CueRow) : (s.setRow r c).divisions = s.divisions := rfl
@[simp] theorem State.setRow_ports (r : RowNumber) (c : CueRow) : (s.setRow r c).ports = s.ports := rfl
@[simp] theorem State.setRow_tables (r : RowNumber) (c : CueRow) : (s.setRow r c).tables = s.tables := rfl
@[simp] theorem State.setRow_response (r : RowNumber) (c : CueRow) : (s.setRow r c).response = s.response := rfl
@[simp] theorem State.setRow_beaconHalf (r : RowNumber) (c : CueRow) : (s.setRow r c).beaconHalf = s.beaconHalf := rfl
@[simp] theorem State.setRow_returnLine (r : RowNumber) (c : CueRow) : (s.setRow r c).returnLine = s.returnLine := rfl
@[simp] theorem State.setRow_counters (r : RowNumber) (c : CueRow) : (s.setRow r c).counters = s.counters := rfl
@[simp] theorem State.setRow_flags (r : RowNumber) (c : CueRow) : (s.setRow r c).flags = s.flags := rfl
@[simp] theorem State.setRow_pending (r : RowNumber) (c : CueRow) : (s.setRow r c).pending = s.pending := rfl

/-! ### updateMark -/

@[simp] theorem State.updateMark_resetHeld (r : RowNumber) : (s.updateMark r).resetHeld = s.resetHeld := rfl
@[simp] theorem State.updateMark_deviceTime (r : RowNumber) : (s.updateMark r).deviceTime = s.deviceTime := rfl
@[simp] theorem State.updateMark_partAddress (r : RowNumber) : (s.updateMark r).partAddress = s.partAddress := rfl
@[simp] theorem State.updateMark_nave (r : RowNumber) : (s.updateMark r).nave = s.nave := rfl
@[simp] theorem State.updateMark_assembly (r : RowNumber) : (s.updateMark r).assembly = s.assembly := rfl
@[simp] theorem State.updateMark_handed (r : RowNumber) : (s.updateMark r).handed = s.handed := rfl
@[simp] theorem State.updateMark_cues (r : RowNumber) : (s.updateMark r).cues = s.cues := rfl
@[simp] theorem State.updateMark_updateMarks (r : RowNumber) :
    (s.updateMark r).updateMarks = s.updateMarks.set r true := rfl
@[simp] theorem State.updateMark_rol (r : RowNumber) : (s.updateMark r).rol = s.rol := rfl
@[simp] theorem State.updateMark_highMark (r : RowNumber) : (s.updateMark r).highMark = s.highMark := rfl
@[simp] theorem State.updateMark_follower (r : RowNumber) : (s.updateMark r).follower = s.follower := rfl
@[simp] theorem State.updateMark_held (r : RowNumber) : (s.updateMark r).held = s.held := rfl
@[simp] theorem State.updateMark_divisions (r : RowNumber) : (s.updateMark r).divisions = s.divisions := rfl
@[simp] theorem State.updateMark_ports (r : RowNumber) : (s.updateMark r).ports = s.ports := rfl
@[simp] theorem State.updateMark_tables (r : RowNumber) : (s.updateMark r).tables = s.tables := rfl
@[simp] theorem State.updateMark_response (r : RowNumber) : (s.updateMark r).response = s.response := rfl
@[simp] theorem State.updateMark_beaconHalf (r : RowNumber) : (s.updateMark r).beaconHalf = s.beaconHalf := rfl
@[simp] theorem State.updateMark_returnLine (r : RowNumber) : (s.updateMark r).returnLine = s.returnLine := rfl
@[simp] theorem State.updateMark_counters (r : RowNumber) : (s.updateMark r).counters = s.counters := rfl
@[simp] theorem State.updateMark_flags (r : RowNumber) : (s.updateMark r).flags = s.flags := rfl
@[simp] theorem State.updateMark_pending (r : RowNumber) : (s.updateMark r).pending = s.pending := rfl

/-! ### setPort -/

@[simp] theorem State.setPort_resetHeld (d : Division) (p : Port) : (s.setPort d p).resetHeld = s.resetHeld := rfl
@[simp] theorem State.setPort_deviceTime (d : Division) (p : Port) : (s.setPort d p).deviceTime = s.deviceTime := rfl
@[simp] theorem State.setPort_partAddress (d : Division) (p : Port) :
    (s.setPort d p).partAddress = s.partAddress := rfl
@[simp] theorem State.setPort_nave (d : Division) (p : Port) : (s.setPort d p).nave = s.nave := rfl
@[simp] theorem State.setPort_assembly (d : Division) (p : Port) : (s.setPort d p).assembly = s.assembly := rfl
@[simp] theorem State.setPort_handed (d : Division) (p : Port) : (s.setPort d p).handed = s.handed := rfl
@[simp] theorem State.setPort_cues (d : Division) (p : Port) : (s.setPort d p).cues = s.cues := rfl
@[simp] theorem State.setPort_updateMarks (d : Division) (p : Port) :
    (s.setPort d p).updateMarks = s.updateMarks := rfl
@[simp] theorem State.setPort_rol (d : Division) (p : Port) : (s.setPort d p).rol = s.rol := rfl
@[simp] theorem State.setPort_highMark (d : Division) (p : Port) : (s.setPort d p).highMark = s.highMark := rfl
@[simp] theorem State.setPort_follower (d : Division) (p : Port) : (s.setPort d p).follower = s.follower := rfl
@[simp] theorem State.setPort_held (d : Division) (p : Port) : (s.setPort d p).held = s.held := rfl
@[simp] theorem State.setPort_divisions (d : Division) (p : Port) : (s.setPort d p).divisions = s.divisions := rfl
@[simp] theorem State.setPort_ports (d : Division) (p : Port) : (s.setPort d p).ports = s.ports.set d p := rfl
@[simp] theorem State.setPort_tables (d : Division) (p : Port) : (s.setPort d p).tables = s.tables := rfl
@[simp] theorem State.setPort_response (d : Division) (p : Port) : (s.setPort d p).response = s.response := rfl
@[simp] theorem State.setPort_beaconHalf (d : Division) (p : Port) : (s.setPort d p).beaconHalf = s.beaconHalf := rfl
@[simp] theorem State.setPort_returnLine (d : Division) (p : Port) : (s.setPort d p).returnLine = s.returnLine := rfl
@[simp] theorem State.setPort_counters (d : Division) (p : Port) : (s.setPort d p).counters = s.counters := rfl
@[simp] theorem State.setPort_flags (d : Division) (p : Port) : (s.setPort d p).flags = s.flags := rfl
@[simp] theorem State.setPort_pending (d : Division) (p : Port) : (s.setPort d p).pending = s.pending := rfl

/-! ### setDivision -/

@[simp] theorem State.setDivision_resetHeld (d : Division) (r : DivisionRecord) :
    (s.setDivision d r).resetHeld = s.resetHeld := rfl
@[simp] theorem State.setDivision_deviceTime (d : Division) (r : DivisionRecord) :
    (s.setDivision d r).deviceTime = s.deviceTime := rfl
@[simp] theorem State.setDivision_partAddress (d : Division) (r : DivisionRecord) :
    (s.setDivision d r).partAddress = s.partAddress := rfl
@[simp] theorem State.setDivision_nave (d : Division) (r : DivisionRecord) : (s.setDivision d r).nave = s.nave := rfl
@[simp] theorem State.setDivision_assembly (d : Division) (r : DivisionRecord) :
    (s.setDivision d r).assembly = s.assembly := rfl
@[simp] theorem State.setDivision_handed (d : Division) (r : DivisionRecord) :
    (s.setDivision d r).handed = s.handed := rfl
@[simp] theorem State.setDivision_cues (d : Division) (r : DivisionRecord) : (s.setDivision d r).cues = s.cues := rfl
@[simp] theorem State.setDivision_updateMarks (d : Division) (r : DivisionRecord) :
    (s.setDivision d r).updateMarks = s.updateMarks := rfl
@[simp] theorem State.setDivision_rol (d : Division) (r : DivisionRecord) : (s.setDivision d r).rol = s.rol := rfl
@[simp] theorem State.setDivision_highMark (d : Division) (r : DivisionRecord) :
    (s.setDivision d r).highMark = s.highMark := rfl
@[simp] theorem State.setDivision_follower (d : Division) (r : DivisionRecord) :
    (s.setDivision d r).follower = s.follower := rfl
@[simp] theorem State.setDivision_held (d : Division) (r : DivisionRecord) : (s.setDivision d r).held = s.held := rfl
@[simp] theorem State.setDivision_divisions (d : Division) (r : DivisionRecord) :
    (s.setDivision d r).divisions = s.divisions.set d r := rfl
@[simp] theorem State.setDivision_ports (d : Division) (r : DivisionRecord) :
    (s.setDivision d r).ports = s.ports := rfl
@[simp] theorem State.setDivision_tables (d : Division) (r : DivisionRecord) :
    (s.setDivision d r).tables = s.tables := rfl
@[simp] theorem State.setDivision_response (d : Division) (r : DivisionRecord) :
    (s.setDivision d r).response = s.response := rfl
@[simp] theorem State.setDivision_beaconHalf (d : Division) (r : DivisionRecord) :
    (s.setDivision d r).beaconHalf = s.beaconHalf := rfl
@[simp] theorem State.setDivision_returnLine (d : Division) (r : DivisionRecord) :
    (s.setDivision d r).returnLine = s.returnLine := rfl
@[simp] theorem State.setDivision_counters (d : Division) (r : DivisionRecord) :
    (s.setDivision d r).counters = s.counters := rfl
@[simp] theorem State.setDivision_flags (d : Division) (r : DivisionRecord) :
    (s.setDivision d r).flags = s.flags := rfl
@[simp] theorem State.setDivision_pending (d : Division) (r : DivisionRecord) :
    (s.setDivision d r).pending = s.pending := rfl

/-! ### setHeld -/

@[simp] theorem State.setHeld_resetHeld (d : Division) (h : Option RowNumber) :
    (s.setHeld d h).resetHeld = s.resetHeld := rfl
@[simp] theorem State.setHeld_deviceTime (d : Division) (h : Option RowNumber) :
    (s.setHeld d h).deviceTime = s.deviceTime := rfl
@[simp] theorem State.setHeld_partAddress (d : Division) (h : Option RowNumber) :
    (s.setHeld d h).partAddress = s.partAddress := rfl
@[simp] theorem State.setHeld_nave (d : Division) (h : Option RowNumber) : (s.setHeld d h).nave = s.nave := rfl
@[simp] theorem State.setHeld_assembly (d : Division) (h : Option RowNumber) :
    (s.setHeld d h).assembly = s.assembly := rfl
@[simp] theorem State.setHeld_handed (d : Division) (h : Option RowNumber) : (s.setHeld d h).handed = s.handed := rfl
@[simp] theorem State.setHeld_cues (d : Division) (h : Option RowNumber) : (s.setHeld d h).cues = s.cues := rfl
@[simp] theorem State.setHeld_updateMarks (d : Division) (h : Option RowNumber) :
    (s.setHeld d h).updateMarks = s.updateMarks := rfl
@[simp] theorem State.setHeld_rol (d : Division) (h : Option RowNumber) : (s.setHeld d h).rol = s.rol := rfl
@[simp] theorem State.setHeld_highMark (d : Division) (h : Option RowNumber) :
    (s.setHeld d h).highMark = s.highMark := rfl
@[simp] theorem State.setHeld_follower (d : Division) (h : Option RowNumber) :
    (s.setHeld d h).follower = s.follower := rfl
@[simp] theorem State.setHeld_held (d : Division) (h : Option RowNumber) :
    (s.setHeld d h).held = s.held.set d h := rfl
@[simp] theorem State.setHeld_divisions (d : Division) (h : Option RowNumber) :
    (s.setHeld d h).divisions = s.divisions := rfl
@[simp] theorem State.setHeld_ports (d : Division) (h : Option RowNumber) : (s.setHeld d h).ports = s.ports := rfl
@[simp] theorem State.setHeld_tables (d : Division) (h : Option RowNumber) : (s.setHeld d h).tables = s.tables := rfl
@[simp] theorem State.setHeld_response (d : Division) (h : Option RowNumber) :
    (s.setHeld d h).response = s.response := rfl
@[simp] theorem State.setHeld_beaconHalf (d : Division) (h : Option RowNumber) :
    (s.setHeld d h).beaconHalf = s.beaconHalf := rfl
@[simp] theorem State.setHeld_returnLine (d : Division) (h : Option RowNumber) :
    (s.setHeld d h).returnLine = s.returnLine := rfl
@[simp] theorem State.setHeld_counters (d : Division) (h : Option RowNumber) :
    (s.setHeld d h).counters = s.counters := rfl
@[simp] theorem State.setHeld_flags (d : Division) (h : Option RowNumber) : (s.setHeld d h).flags = s.flags := rfl
@[simp] theorem State.setHeld_pending (d : Division) (h : Option RowNumber) :
    (s.setHeld d h).pending = s.pending := rfl

/-! ### silence -/

@[simp] theorem State.silence_resetHeld (d : Division) : (s.silence d).resetHeld = s.resetHeld := rfl
@[simp] theorem State.silence_deviceTime (d : Division) : (s.silence d).deviceTime = s.deviceTime := rfl
@[simp] theorem State.silence_partAddress (d : Division) : (s.silence d).partAddress = s.partAddress := rfl
@[simp] theorem State.silence_nave (d : Division) : (s.silence d).nave = s.nave := rfl
@[simp] theorem State.silence_assembly (d : Division) : (s.silence d).assembly = s.assembly := rfl
@[simp] theorem State.silence_handed (d : Division) : (s.silence d).handed = s.handed := rfl
@[simp] theorem State.silence_cues (d : Division) : (s.silence d).cues = s.cues := rfl
@[simp] theorem State.silence_updateMarks (d : Division) : (s.silence d).updateMarks = s.updateMarks := rfl
@[simp] theorem State.silence_rol (d : Division) : (s.silence d).rol = s.rol := rfl
@[simp] theorem State.silence_highMark (d : Division) : (s.silence d).highMark = s.highMark := rfl
@[simp] theorem State.silence_follower (d : Division) : (s.silence d).follower = s.follower := rfl
@[simp] theorem State.silence_held (d : Division) : (s.silence d).held = s.held := rfl
@[simp] theorem State.silence_divisions (d : Division) :
    (s.silence d).divisions = s.divisions.set d DivisionRecord.silent := rfl
@[simp] theorem State.silence_ports (d : Division) : (s.silence d).ports = s.ports.set d s.ports[d].oweAllOff := rfl
@[simp] theorem State.silence_tables (d : Division) : (s.silence d).tables = s.tables := rfl
@[simp] theorem State.silence_response (d : Division) : (s.silence d).response = s.response := rfl
@[simp] theorem State.silence_beaconHalf (d : Division) : (s.silence d).beaconHalf = s.beaconHalf := rfl
@[simp] theorem State.silence_returnLine (d : Division) : (s.silence d).returnLine = s.returnLine := rfl
@[simp] theorem State.silence_counters (d : Division) : (s.silence d).counters = s.counters := rfl
@[simp] theorem State.silence_flags (d : Division) : (s.silence d).flags = s.flags := rfl
@[simp] theorem State.silence_pending (d : Division) : (s.silence d).pending = s.pending := rfl

/-! ### withdraw -/

@[simp] theorem State.withdraw_resetHeld (d : Division) : (s.withdraw d).resetHeld = s.resetHeld := rfl
@[simp] theorem State.withdraw_deviceTime (d : Division) : (s.withdraw d).deviceTime = s.deviceTime := rfl
@[simp] theorem State.withdraw_partAddress (d : Division) : (s.withdraw d).partAddress = s.partAddress := rfl
@[simp] theorem State.withdraw_nave (d : Division) : (s.withdraw d).nave = s.nave := rfl
@[simp] theorem State.withdraw_assembly (d : Division) : (s.withdraw d).assembly = s.assembly := rfl
@[simp] theorem State.withdraw_handed (d : Division) : (s.withdraw d).handed = s.handed := rfl
@[simp] theorem State.withdraw_cues (d : Division) : (s.withdraw d).cues = s.cues := rfl
@[simp] theorem State.withdraw_updateMarks (d : Division) : (s.withdraw d).updateMarks = s.updateMarks := rfl
@[simp] theorem State.withdraw_rol (d : Division) : (s.withdraw d).rol = s.rol := rfl
@[simp] theorem State.withdraw_highMark (d : Division) : (s.withdraw d).highMark = s.highMark := rfl
@[simp] theorem State.withdraw_follower (d : Division) : (s.withdraw d).follower = s.follower := rfl
@[simp] theorem State.withdraw_held (d : Division) : (s.withdraw d).held = s.held.set d none := rfl
@[simp] theorem State.withdraw_divisions (d : Division) : (s.withdraw d).divisions = s.divisions := rfl
@[simp] theorem State.withdraw_ports (d : Division) : (s.withdraw d).ports = s.ports.set d s.ports[d].endWait := rfl
@[simp] theorem State.withdraw_tables (d : Division) : (s.withdraw d).tables = s.tables := rfl
@[simp] theorem State.withdraw_response (d : Division) : (s.withdraw d).response = s.response := rfl
@[simp] theorem State.withdraw_beaconHalf (d : Division) : (s.withdraw d).beaconHalf = s.beaconHalf := rfl
@[simp] theorem State.withdraw_returnLine (d : Division) : (s.withdraw d).returnLine = s.returnLine := rfl
@[simp] theorem State.withdraw_counters (d : Division) : (s.withdraw d).counters = s.counters := rfl
@[simp] theorem State.withdraw_flags (d : Division) : (s.withdraw d).flags = s.flags := rfl
@[simp] theorem State.withdraw_pending (d : Division) : (s.withdraw d).pending = s.pending := rfl

/-! ### markReleased -/

@[simp] theorem State.markReleased_resetHeld (d : Division) (r : RowNumber) :
    (s.markReleased d r).resetHeld = s.resetHeld := rfl
@[simp] theorem State.markReleased_deviceTime (d : Division) (r : RowNumber) :
    (s.markReleased d r).deviceTime = s.deviceTime := rfl
@[simp] theorem State.markReleased_partAddress (d : Division) (r : RowNumber) :
    (s.markReleased d r).partAddress = s.partAddress := rfl
@[simp] theorem State.markReleased_nave (d : Division) (r : RowNumber) : (s.markReleased d r).nave = s.nave := rfl
@[simp] theorem State.markReleased_assembly (d : Division) (r : RowNumber) :
    (s.markReleased d r).assembly = s.assembly := rfl
@[simp] theorem State.markReleased_handed (d : Division) (r : RowNumber) :
    (s.markReleased d r).handed = s.handed := rfl
@[simp] theorem State.markReleased_cues (d : Division) (r : RowNumber) :
    (s.markReleased d r).cues = s.cues.set r (s.cues[r].release d) := rfl
@[simp] theorem State.markReleased_updateMarks (d : Division) (r : RowNumber) :
    (s.markReleased d r).updateMarks = s.updateMarks := rfl
@[simp] theorem State.markReleased_rol (d : Division) (r : RowNumber) :
    (s.markReleased d r).rol = (if (s.cues[r].release d).rowState = .listen then s.rol.erase r else s.rol) := rfl
@[simp] theorem State.markReleased_highMark (d : Division) (r : RowNumber) :
    (s.markReleased d r).highMark = s.highMark := rfl
@[simp] theorem State.markReleased_follower (d : Division) (r : RowNumber) :
    (s.markReleased d r).follower = s.follower.noteReleased (s.cues[r].release d).position := rfl
@[simp] theorem State.markReleased_held (d : Division) (r : RowNumber) : (s.markReleased d r).held = s.held := rfl
@[simp] theorem State.markReleased_divisions (d : Division) (r : RowNumber) :
    (s.markReleased d r).divisions = s.divisions := rfl
@[simp] theorem State.markReleased_ports (d : Division) (r : RowNumber) : (s.markReleased d r).ports = s.ports := rfl
@[simp] theorem State.markReleased_tables (d : Division) (r : RowNumber) :
    (s.markReleased d r).tables = s.tables := rfl
@[simp] theorem State.markReleased_response (d : Division) (r : RowNumber) :
    (s.markReleased d r).response = s.response := rfl
@[simp] theorem State.markReleased_beaconHalf (d : Division) (r : RowNumber) :
    (s.markReleased d r).beaconHalf = s.beaconHalf := rfl
@[simp] theorem State.markReleased_returnLine (d : Division) (r : RowNumber) :
    (s.markReleased d r).returnLine = s.returnLine := rfl
@[simp] theorem State.markReleased_counters (d : Division) (r : RowNumber) :
    (s.markReleased d r).counters = s.counters := rfl
@[simp] theorem State.markReleased_flags (d : Division) (r : RowNumber) : (s.markReleased d r).flags = s.flags := rfl
@[simp] theorem State.markReleased_pending (d : Division) (r : RowNumber) :
    (s.markReleased d r).pending = s.pending := rfl

end Sys2Proof.Machine
end

