-- ==== Sys2Proof/Laws/Ops.lean ====
section
/-!
SUPPORT. What the shared operations do: reading after an update, induction over the device's own events, the list, bounds.
-/

namespace Sys2Proof.Machine

/-! ### Reading one entry after an update -/

theorem State.setRow_get (s : State) (r q : RowNumber) (c : CueRow) :
    (s.setRow r c).cues[q] = if r = q then c else s.cues[q] := by
  simp [State.setRow, Vector.getElem_set, Fin.ext_iff]

theorem State.setPort_get (s : State) (d e : Division) (p : Port) :
    (s.setPort d p).ports[e] = if d = e then p else s.ports[e] := by
  simp [State.setPort, Vector.getElem_set, Fin.ext_iff]

theorem State.setHeld_get (s : State) (d e : Division) (h : Option RowNumber) :
    (s.setHeld d h).held[e] = if d = e then h else s.held[e] := by
  simp [State.setHeld, Vector.getElem_set, Fin.ext_iff]

theorem State.setDivision_get (s : State) (d e : Division) (r : DivisionRecord) :
    (s.setDivision d r).divisions[e] = if d = e then r else s.divisions[e] := by
  simp [State.setDivision, Vector.getElem_set, Fin.ext_iff]

theorem State.raiseBy_get (s : State) (c k : Counter) (n : Nat) :
    (s.raiseBy c n).counters[k] = if c = k then saturatingAdd s.counters[c] n else s.counters[k] := by
  simp [State.raiseBy, Vector.getElem_set, Fin.ext_iff]

theorem State.raise_get (s : State) (c k : Counter) :
    (s.raise c).counters[k] = if c = k then saturatingAdd s.counters[c] 1 else s.counters[k] :=
  State.raiseBy_get s c k 1

/-! ### Counters and clamps -/

theorem saturatingAdd_toNat (c : BitVec 12) (n : Nat) :
    (saturatingAdd c n).toNat = min (c.toNat + n) 4095 := by
  simp only [saturatingAdd, BitVec.toNat_ofNat]
  omega

theorem clamp_bounds {a b : Nat} (h : a ≤ b) (x : Nat) : a ≤ clamp a b x ∧ clamp a b x ≤ b := by
  simp only [clamp]
  omega

/-! ### When commands act -/

@[simp] theorem State.live_of_running {s : State} (h : s.Running) (g : State → State) : s.live g = g s := by
  simp [State.live, h]

@[simp] theorem State.decoded_of_locked {s : State} (h : s.Locked) (g : State → State) :
    s.decoded g = g s := by
  obtain ⟨h1, h2⟩ := h
  cases hn : s.nave.aligned <;> simp_all [State.decoded]

theorem State.live_keeps {P : State → Prop} {s : State} {g : State → State} (hs : P s) (hg : P (g s)) :
    P (s.live g) := by
  unfold State.live
  split <;> assumption

theorem State.decoded_keeps {P : State → Prop} {s : State} {g : State → State} (hs : P s) (hg : P (g s)) :
    P (s.decoded g) := by
  unfold State.decoded
  split <;> assumption

/-! ### Induction -/

theorem forDivisions_keeps {P : State → Prop} {g : Division → State → State}
    (hg : ∀ d s, P s → P (g d s)) (s : State) (hs : P s) : P (forDivisions g s) :=
  hg 3 _ (hg 2 _ (hg 1 _ (hg 0 _ hs)))

/-- Whatever every own event keeps, settling keeps (log 3). -/
theorem settle_keeps {P : State → Prop} (h : ∀ s c, P s → P (s.takeOwn c)) (n : Nat) (s : State) (hs : P s) :
    P (settle n s) := by
  induction n generalizing s with
  | zero => exact hs
  | succ n ih =>
    unfold settle
    split
    · exact ih _ (h _ _ hs)
    · exact hs

/-- With no own event outstanding, settling changes nothing. -/
theorem settle_of_none {s : State} (h : s.nextOwn = none) (n : Nat) : settle n s = s := by
  cases n <;> simp [settle, h]

/-- With an own event outstanding, settling takes the first one and goes on (log 3). -/
theorem settle_of_some {s : State} {c : Instr} (h : s.nextOwn = some c) (n : Nat) :
    settle (n + 1) s = settle n (s.takeOwn c) := by
  simp [settle, h]

/-- The return lane's choice changes its line, the response buffer and the beacon half alone (R170). -/
theorem State.fillReturnSlot_frame (s : State) :
    ∃ l r b, s.fillReturnSlot = { s with returnLine := l, response := r, beaconHalf := b } := by
  unfold State.fillReturnSlot State.chooseReturn State.sendResponse State.sendReturn
  split
  · split
    · exact ⟨_, _, _, rfl⟩
    · split
      · exact ⟨_, _, _, rfl⟩
      · split <;> split <;> exact ⟨_, _, _, rfl⟩
  · exact ⟨_, _, _, rfl⟩

/-- What placement keeps for one cue it keeps for a chord (R27). -/
theorem placeChord_keeps {P : State → Prop} (base : Fin 50) (d1 d2 d3 d4 : Data12)
    (h4 : ∀ s, P s → P (s.raise Counter.abortedOrMalformed)) (h3 : ∀ s, P s → P (s.raise Counter.noHymn))
    (hc : ∀ s gate sub, P s → P (s.placeCue (extendedTag base sub) (chordCue gate d1 d2 d3 d4 sub)))
    (s : State) (hs : P s) : P (s.placeChord base d1 d2 d3 d4) := by
  unfold State.placeChord
  split
  · exact h4 _ hs
  · split
    · exact h4 _ hs
    · split
      · exact h3 _ hs
      · next gate _ _ _ =>
        clear * - hs hc
        generalize chordSubBeats d2 = l
        induction l generalizing s with
        | nil => exact hs
        | cons a l ih => exact ih _ (hc _ gate a hs)

/-! ### Releases by port state (R108 to R111) -/

theorem State.releaseTo_off {s : State} {d : Division} (r : RowNumber) (h : s.ports[d].state = .off) :
    s.releaseTo d r = s.markReleased d r := by
  simp only [State.releaseTo, h]

theorem State.releaseTo_stalled {s : State} {d : Division} (r : RowNumber) (h : s.ports[d].state = .stalled) :
    s.releaseTo d r = s.releaseUnheard d r := by
  simp only [State.releaseTo, h]

theorem State.releaseTo_fits {s : State} {d : Division} {r : RowNumber} (h : s.ports[d].state = .active)
    (hf : s.ports[d].fits (s.computeCue d r).run = true) : s.releaseTo d r = s.enterRelease d r := by
  simp only [State.releaseTo, h, hf, if_true]

theorem State.releaseTo_held {s : State} {d : Division} {r : RowNumber} (h : s.ports[d].state = .active)
    (hf : s.ports[d].fits (s.computeCue d r).run = false) : s.releaseTo d r = s.hold d r := by
  simp only [State.releaseTo, h, hf, Bool.false_eq_true, if_false]

/-! ### Port operations -/

theorem Port.fits_room {p : Port} {run : List ValveWord} (h : p.fits run = true) :
    p.owedAllOff = false ∧ run.length ≤ 12 - p.queue.length := by
  simp only [Port.fits, Port.freeSlots, Config.queueCapacity, Bool.and_eq_true, Bool.not_eq_true'] at h
  exact ⟨h.1, of_decide_eq_true h.2⟩

@[simp] theorem Port.oweAllOff_of_off {p : Port} (h : p.state = .off) : p.oweAllOff = p := by
  simp [Port.oweAllOff, h]

@[simp] theorem Port.oweAllOff_of_on {p : Port} (h : p.state ≠ .off) :
    p.oweAllOff = { p with owedAllOff := true } := by
  simp [Port.oweAllOff, h]

@[simp] theorem Port.endWait_of_waiting {p : Port} (h : p.state = .waiting) :
    p.endWait = { p with state := .active, waitingSince := none, offerDue := false } := by
  simp [Port.endWait, h]

@[simp] theorem Port.endWait_of_not {p : Port} (h : p.state ≠ .waiting) : p.endWait = p := by
  simp [Port.endWait, h]

/-! ### Fields of a word -/

theorem field_toNat (w : Data12) (lo len : Nat) : field w lo len = w.toNat / 2 ^ lo % 2 ^ len := by
  simp [field, BitVec.extractLsb'_toNat, Nat.shiftRight_eq_div_pow]

theorem onsetLoft_eq (o : Value6) : onsetLoft o = (if o.toNat < 32 then .east else .west) := by
  revert o; decide

theorem onsetStrength_eq (o : Value6) : onsetStrength o = o.toNat / 8 % 4 := by revert o; decide

theorem onsetOffset_eq (o : Value6) : onsetOffset o = o.toNat % 8 := by revert o; decide

/-! ### Four of a kind -/

/-- Vectors over the divisions are equal when they agree at each division. -/
theorem ext_divisions {α : Type} (v w : Vector α 4) (h : ∀ d : Division, v[d] = w[d]) : v = w :=
  Vector.ext fun i hi => h ⟨i, hi⟩

/-! ### Messages (R14, R17) -/

/-- Without a complete LOAD in the assembly there is nothing to open (R17). -/
theorem State.openLoad_of_none {s : State} (h : s.assembly.completeLoad = none) : s.openLoad = s := by
  simp only [State.openLoad, h]

/-- An opened stream is no complete LOAD. -/
theorem State.openLoad_opened (s : State) : s.openLoad.assembly.completeLoad = none := by
  unfold State.openLoad
  split
  · assumption
  · simp only []
    split <;> simp [Assembly.completeLoad, State.raise, State.raiseBy]

theorem State.openLoad_openLoad (s : State) : s.openLoad.openLoad = s.openLoad :=
  State.openLoad_of_none s.openLoad_opened

/-! ### Silencing (R137, R156) -/

/-- STOP and starvation entry at one port. -/
theorem State.quiet_eq (d : Division) (s : State) : s.quiet d = { s with
    held := s.held.set d none
    divisions := s.divisions.set d DivisionRecord.silent
    ports := s.ports.set d s.ports[d].endWait.oweAllOff } := by
  simp [State.quiet, State.withdraw, State.silence, State.setHeld, State.setPort, State.setDivision]

/-! ### The clock and the list (R38, R47, R54, R66) -/

theorem Time.diff_self (t : Time) : Time.diff t t = 0 := by simp [Time.diff]

theorem Follower.engage_eq (f : Follower) : f.engage = { f with
    mode := if f.mode = .lead ∧ f.profile.engage ≤ f.matchCount then .follow else f.mode } := by
  unfold Follower.engage
  split <;> rfl

theorem State.earliestGated_gated {s : State} {r : RowNumber} (h : s.earliestGated = some r) :
    s.cues[r].rowState = .gated := by
  simpa using List.find?_some h

/-- Opening a GATED row at now: the row, and the clock re-anchored on it (R87, R89, R93). -/
theorem State.openGateNow_eq {s : State} {r : RowNumber} (h : s.cues[r].rowState = .gated) :
    s.openGateNow r = { s with
      cues := s.cues.set r { s.cues[r] with rowState := .pending, armed := none }
      follower := { s.follower with ta := s.deviceTime, ba := s.cues[r].position, age := 0 } } := by
  rw [State.openGateNow, State.openRow, if_pos h]
  have : (s.setRow r s.cues[r].opened).cues[r].position = s.cues[r].position := by
    rw [State.setRow_get, if_pos rfl]; rfl
  simp only [State.anchorOn, this, State.setFollower, Follower.anchor]
  simp only [State.setRow, Time.diff_self]
  rfl

/-- Arming changes nothing, or gives the earliest GATED row its arm time (R83). -/
theorem State.armReached_cases (s : State) : s.armReached = s
    ∨ ∃ r, s.earliestGated = some r ∧ s.cues[r].armed = none
      ∧ s.armReached = s.setRow r { s.cues[r] with armed := some s.deviceTime } := by
  cases ha : s.armRow with
  | none => exact Or.inl (by simp only [State.armReached, ha])
  | some r =>
    refine Or.inr ⟨r, ?_, ?_, by simp only [State.armReached, ha]⟩
    all_goals
      unfold State.armRow at ha
      split at ha
      · next x hx =>
        split at ha
        · next hc =>
          injection ha with ha
          subst ha
          simp only [Bool.and_eq_true, Option.isNone_iff_eq_none] at hc
          first | exact hx | exact hc.2
        · cases ha
      · cases ha

/-- A row stands behind a gate when a GATED row stands before it on the list (R66). -/
theorem State.mem_behindGate (s : State) (r : RowNumber) :
    r ∈ s.behindGate ↔ ∃ i j : Nat, i < j ∧ s.rol[j]? = some r
      ∧ ∃ g, s.rol[i]? = some g ∧ s.cues[g].rowState = .gated := by
  unfold State.behindGate
  generalize s.rol = l
  induction l with
  | nil => simp
  | cons a l ih =>
    by_cases ha : s.cues[a].rowState = .gated
    · rw [List.dropWhile_cons_of_neg (by simpa using ha), List.tail_cons]
      constructor
      · intro h
        obtain ⟨j, hj⟩ := List.getElem?_of_mem h
        exact ⟨0, j + 1, by omega, by simpa using hj, a, rfl, ha⟩
      · rintro ⟨i, j, hij, hj, _⟩
        obtain ⟨j, rfl⟩ : ∃ k, j = k + 1 := ⟨j - 1, by omega⟩
        exact List.mem_of_getElem? (by simpa using hj)
    · rw [List.dropWhile_cons_of_pos (by simpa using ha), ih]
      constructor
      · rintro ⟨i, j, hij, hj, g, hg⟩
        exact ⟨i + 1, j + 1, by omega, by simpa using hj, g, by simpa using hg⟩
      · rintro ⟨i, j, hij, hj, g, hi, hg⟩
        obtain ⟨j, rfl⟩ : ∃ k, j = k + 1 := ⟨j - 1, by omega⟩
        cases i with
        | zero => simp at hi; subst hi; exact absurd hg ha
        | succ i => exact ⟨i, j, by omega, by simpa using hj, g, by simpa using hi, hg⟩

/-! ### Exit candidates (R77 to R79) -/

/-- The first awaiting row awaits, and no row before it does (R77, R79). -/
theorem State.firstAwaiting_some {s : State} {l : Loft} {rows : List RowNumber} {r : RowNumber}
    (h : s.firstAwaiting l rows = some r) : r ∈ rows ∧ s.cues[r].awaits l = true := by
  rw [State.firstAwaiting] at h
  exact ⟨List.mem_of_find?_eq_some h, by simpa using List.find?_some h⟩

theorem State.firstAwaiting_none {s : State} {l : Loft} {rows : List RowNumber} :
    s.firstAwaiting l rows = none ↔ ∀ x ∈ rows, s.cues[x].awaits l = false := by
  simp [State.firstAwaiting]

/-- The freeze exit candidate is none, or the first awaiting row after the freeze position (R77, R78, log 10). -/
theorem State.freezeExit_cases (s : State) (l : Loft) (f : Nat) : s.freezeExit l f = none
    ∨ s.freezeExit l f = s.firstAwaiting l (s.rol.filter fun r => decide (f < s.cues[r].position)) := by
  simp only [State.freezeExit]
  split
  · exact Or.inl rfl
  · split
    · exact Or.inr rfl
    · exact Or.inl rfl

/-- The first syllable row after the freeze position, not marked by the loft, is the exit candidate (R77, R78). -/
theorem State.freezeExit_first {s : State} {l : Loft} {f : Nat} {r : RowNumber}
    (h : (s.rol.filter fun x => decide (f < s.cues[x].position)).find? (fun x => s.cues[x].syllable) = some r)
    (hm : s.cues[r].mark l = false) : s.freezeExit l f = some r := by
  have hs : s.cues[r].syllable = true := by simpa using List.find?_some h
  have hw : s.cues[r].awaits l = true := by
    rw [CueRow.awaits, hs, hm]
    rfl
  simp only [State.freezeExit, h, hw, Bool.true_or, if_true, State.firstAwaiting]
  obtain ⟨_, before, after, hl, hb⟩ := List.find?_eq_some_iff_append.mp h
  rw [hl, List.find?_eq_some_iff_append]
  refine ⟨hw, before, after, rfl, fun x hx => ?_⟩
  have hx' : s.cues[x].syllable = false := by simpa using hb x hx
  rw [CueRow.awaits, hx']
  rfl

/-! ### Stalls (R112, R151, R157) -/

theorem State.takeStall_of_not {s : State} {d : Division} (h : s.stallsNow d = false) : s.takeStall d = s := by
  simp only [State.takeStall, h, Bool.false_eq_true, if_false]

/-- With no offer outstanding a port past its limit stalls (R151). -/
theorem State.takeStall_of_noOffer {s : State} {d : Division} (h : s.stallsNow d = true)
    (ho : s.offerRow d = none) : s.takeStall d = s.stallPort d := by
  simp only [State.takeStall, State.takeOffer, h, ho, if_true]

/-- STALL changes nothing, makes the outstanding offer, or stalls the port after it (R151, R157). -/
theorem State.takeStall_cases (s : State) (d : Division) : s.takeStall d = s ∨ s.takeStall d = s.takeOffer d
    ∨ s.takeStall d = (s.takeOffer d).stallPort d := by
  simp only [State.takeStall]
  split
  · split
    · exact Or.inr (Or.inr rfl)
    · exact Or.inr (Or.inl rfl)
  · exact Or.inl rfl

/-! ### A division write (R163) -/

theorem State.takeRelease_of_none {s : State} {d : Division} (h : s.releaseRow d = none) : s.takeRelease d = s := by
  simp only [State.takeRelease, h]

/-- With no row due, or one held, releasing the due rows changes nothing (R107). -/
theorem State.releaseDue_of_none {s : State} {d : Division} (h : s.releaseRow d = none) : s.releaseDue d = s := by
  unfold State.releaseDue
  generalize s.rol = l
  induction l with
  | nil => rfl
  | cons _ l ih => rw [List.foldl_cons, State.takeRelease_of_none h, ih]

/-- What one release keeps, the release of every due row keeps (R107). -/
theorem State.releaseDue_keeps {P : State → Prop} {d : Division} (h : ∀ s, P s → P (s.takeRelease d)) (s : State)
    (hs : P s) : P (s.releaseDue d) := by
  unfold State.releaseDue
  generalize s.rol = l
  induction l generalizing s with
  | nil => exact hs
  | cons _ l ih => exact ih _ (h _ hs)

/-- What each of its parts keeps, a division write keeps (R163). -/
theorem State.writeDivision_keeps {P : State → Prop} {d : Division} (row : DivisionRow)
    (hp : ∀ s e, P s → P (s.changePort d e)) (hst : ∀ s, P s → P (s.takeStall d))
    (hr : ∀ s, P s → P (s.takeRelease d)) (s : State) (hs : P (s.storeDivision d row)) : P (s.writeDivision d row) := by
  simp only [State.writeDivision, State.lowerStallLimit, State.changeLead]
  have h1 := hp _ row.enabled hs
  have h2 : P (if row.stallLimit < s.tables.division[d].stallLimit
      then ((s.storeDivision d row).changePort d row.enabled).takeStall d
      else (s.storeDivision d row).changePort d row.enabled) := by
    split
    · exact hst _ h1
    · exact h1
  split
  · exact h2
  · exact State.releaseDue_keeps hr _ h2

/-! ### The Mapper's bounds (R127, R135) -/

theorem packEvents_length (l : List KeyEvent) : (packEvents l).length = (l.length + 2) / 3 := by
  fun_induction packEvents l <;> simp_all
  omega

theorem derivedHolders_length (row : RegistrationRow) (tr : Int) (reg : Voices (Option Value6)) :
    (derivedHolders row tr reg).length ≤ 12 := by
  have one : ∀ v, (voiceHolders row tr v (reg.get v)).length ≤ 3 := by
    intro v
    unfold voiceHolders
    split
    · simp
    · split
      · rw [List.length_map]
        exact (List.length_filter_le _ _).trans (by simp [allOctaves])
      · simp
  simp only [derivedHolders, allVoices, List.flatMap_cons, List.flatMap_nil, List.length_append, List.length_nil]
  have h1 := one .soprano
  have h2 := one .alto
  have h3 := one .tenor
  have h4 := one .bass
  omega

end Sys2Proof.Machine
end

