-- ==== Sys2Proof/WellFormed.lean ====
section
/-!
DEFINITION. Which commands are well formed: the operands whose type is wider than what the manual gives the event.
-/

namespace Sys2Proof

/-- A CHORD header's second symbol is no control symbol (R5), and a CREDIT carries 1..6 (R145).
Every other operand is held to its range by its type. -/
def Instr.wellFormed : Instr → Bool
  | .powerReset => true
  | .resetRelease _ => true
  | .sync _ => true
  | .lockLoss => true
  | .data _ => true
  | .chordHeader second => (tagBase second).isSome
  | .commandHeader _ => true
  | .fill => true
  | .corruptedSync => true
  | .lostOnset => true
  | .damagedFrame => true
  | .chordMessage => true
  | .load => true
  | .read => true
  | .hymn => true
  | .start => true
  | .stop => true
  | .gate => true
  | .flush => true
  | .clear => true
  | .onset _ => true
  | .listenExpiry _ => true
  | .silenceFall => true
  | .freezeEntry => true
  | .starvationEntry => true
  | .arm => true
  | .gateSoundExpiry => true
  | .gateDropExpiry => true
  | .fermataExpiry => true
  | .release _ => true
  | .heldReleaseOffer _ => true
  | .allOffEntry _ => true
  | .wordLeaving _ => true
  | .credit _ n => decide (1 ≤ n.toNat ∧ n.toNat ≤ 6)
  | .stall _ => true
  | .chestSync _ _ => true
  | .receiveLockLoss _ => true
  | .beacon => true
  | .responseComplete => true
  | .deviceTimeAdvance => true

end Sys2Proof
end

