-- ==== Sys2Proof/Tests/Slice0.lean ====
section
/-!
SUPPORT. Small tests: ill-formed terms, symbols and frames, one step of each family, and for every statement with
hypotheses a concrete case that meets them (`test_witness_<Statement>`), clause by clause.
-/

namespace Sys2Proof.Tests

open Sys2Proof Sys2Proof.Machine

/-! ### States to test on -/

/-- Just after power reset is released, with straps 2; nothing owed to the ports yet, so that nothing is outstanding. -/
def on : State := { State.reset with
  resetHeld := false, partAddress := 2
  ports := Vector.replicate 4 { Port.reset with owedAllOff := false } }

/-- Locked on alignment 3. -/
def locked : State := { on with
  nave := { aligned := some 3, counts := (Vector.replicate 16 0).set 3 12, lastSync := 0 } }

/-- `locked` with the follower in `m`, at age 0 on position 0, with a period of 64 frame-time sixteenths a position. -/
def inMode (m : Mode) : State := { locked with
  follower := { Follower.reset with mode := m, period := 24000, prevUpdate := some 0
                                    freeze := if m = .freeze then some ⟨4, 0, .lead⟩ else none } }

/-- A syllable row in a state, at a position. -/
def row (st : RowState) (q : Nat) : CueRow :=
  { CueRow.reset with rowState := st, position := q, syllable := true
                      released := if st = .listen then Vector.replicate 4 true else Vector.replicate 4 false }

/-- `s` with row 0 on the list. -/
def withRow (s : State) (c : CueRow) : State :=
  { s with cues := s.cues.set 0 c, rol := if c.rowState.onList then [0] else [], highMark := (c.position : Int) }

/-- `s` with a message first in line. -/
def withHanded (s : State) (h : Handed) : State := { s with handed := [h] }

/-- `s` with port 1 replaced. -/
def withPort (s : State) (p : Port) : State := { s with ports := s.ports.set 1 p }

/-- The state a command leaves. -/
def after (c : Instr) (s : State) : State :=
  match exec c s with
  | .next t => t
  | .fault _ => s
  | .refused _ => s

/-! ### Ill-formed commands -/

theorem test_illformed_chord_header : (Instr.chordHeader 0x0F).wellFormed = false := by decide
theorem test_illformed_credit_zero : (Instr.credit 0 0).wellFormed = false := by decide
theorem test_illformed_credit_seven : (Instr.credit 0 7).wellFormed = false := by decide
theorem test_wellformed : (Instr.chordHeader 0x17).wellFormed = true ∧ (Instr.credit 3 6).wellFormed = true := by
  decide

/-! ### Symbols and frames (R3 to R5) -/

theorem test_frames :
    naveFrame 5 0x0F 0xF0 = .sync 5 ∧ naveFrame 5 0x33 0x17 = .onset 0 ∧ naveFrame 5 0xC3 0xE8 = .commandHeader 63
    ∧ naveFrame 5 0x1B 0x1D = .data 0x042 ∧ naveFrame 5 0xCC 0xCC = .fill ∧ naveFrame 5 0x0F 0xF1 = .corruptedSync
    ∧ naveFrame 5 0x33 0x07 = .lostOnset ∧ naveFrame 5 0x3C 0x1F = .chordHeader 0x1F
    ∧ naveFrame 5 0xF0 0x0F = .damagedFrame := by decide

theorem test_chest_frames :
    chestFrame 1 4 0x0F 0xF0 = some (.chestSync 1 4) ∧ chestFrame 1 4 0x33 0x2D = some (.credit 1 6)
    ∧ chestFrame 1 4 0x33 0x2E = none ∧ chestFrame 1 4 0x33 0x17 = none := by decide

theorem test_sent_frames :
    OutFrame.sync.symbols = (0x0F, 0xF0) ∧ (OutFrame.data 0x042).symbols = (0x1B, 0x1D)
    ∧ (OutFrame.header 63).symbols = (0xC3, 0xE8) ∧ (OutFrame.beacon 0).symbols = (0xCC, 0x17) := by decide

/-! ### One step of each family -/

theorem test_step_takes_the_front :
    step { State.reset with pending := [.resetRelease 5, .fill] }
      = .next { after (.resetRelease 5) State.reset with pending := [.fill] } := by rfl

theorem test_reset_release :
    (after (.resetRelease 5) State.reset).partAddress = 5
    ∧ (after (.resetRelease 5) State.reset).ports[2].queue = [.allOff] := by decide +kernel

/-- A GATE (code 5) to address 2 travels from its header to the follower. -/
theorem test_command_header_hands_on :
    (after (.commandHeader 0x15) locked).handed = [.gate] ∧ (after (.commandHeader 0x1D) locked).handed = [] := by
  decide +kernel

/-- A whole LOAD row: control word 14, mask 3, through header, table and row, and two words. -/
theorem test_load_row :
    (after (.data 3) (after (.data 14) (after .load (after (.data 0) (after (.commandHeader 0x10) locked))))).tables.control
      = ⟨14, 3⟩ := by decide +kernel

/-- A chord at beat 1 with sub-beats 0 and 2, gate-sound, the last sub-beat a fermata. -/
theorem test_chord :
    let s := after .chordMessage (withHanded (inMode .countIn) (.chord 1 1 0xA70 0x555 0x555))
    s.rol = [4, 6] ∧ s.cues[4].rowState = .gated ∧ s.cues[6].rowState = .pending ∧ s.cues[6].fermata = true
      ∧ s.cues[6].position = 6 ∧ s.highMark = 6 ∧ s.counters[0] = 2 := by decide +kernel

theorem test_hymn :
    let s := after .hymn (withHanded on (.hymn 0x0C0 60))
    s.follower.mode = .countIn ∧ s.follower.period = 64000 ∧ s.follower.transposition = 0 := by decide +kernel

theorem test_start :
    let s := after .start (withHanded (withRow (inMode .countIn) (row .pending 8)) (.start 100))
    s.follower.mode = .lead ∧ s.follower.age = -100 ∧ s.follower.ba = 8 := by decide +kernel

/-- d(4) = 4 × 24000 / 64 = 1500: an onset decoded at age 1510 is 10 late, and the phase moves by 10 × 8 / 16 = 5. -/
theorem test_onset_corrects_phase :
    let s := after (.onset 0x08) { withRow (inMode .lead) (row .pending 4) with
      deviceTime := 1510, follower := { (inMode .lead).follower with age := 1510 } }
    s.follower.ta = 1505 ∧ s.follower.age = 5 ∧ s.follower.ba = 4 ∧ s.counters[9] = 1 := by decide +kernel

/-- A fermata expiry re-anchors on a GATED row and arms it in the same event (R83, R98). -/
theorem test_expiry_arms_at_once :
    let s := after .fermataExpiry { withRow (inMode .freeze) { row .gated 5 with gateMode := .sound } with deviceTime := 6001 }
    s.follower.mode = .lead ∧ s.follower.ba = 5 ∧ s.cues[0].armed = some 6001 := by decide +kernel

/-- Code 30 is key 28 without transposition; the default row of division 0 gives the unison alone. -/
theorem test_release_words :
    let c : CueRow := { row .pending 0 with voices := ⟨30, 0, 0, 0⟩ }
    let s := after (.release 0) (withRow (inMode .lead) c)
    s.ports[0].queue = [.stopA 1, .stopB 0, .keys ⟨true, 28⟩ none none] ∧ s.cues[0].rowState = .releasing := by
  decide +kernel

theorem test_word_leaves :
    let s := after (.wordLeaving 1)
      (withPort { on with deviceTime := 5 } { Port.reset with queue := [.allOff], credits := 2 })
    s.ports[1].line.now = some (.data 0x620) ∧ s.ports[1].transmission = some 0 ∧ s.ports[1].credits = 1 := by
  decide +kernel

theorem test_read_response :
    (after .read (withHanded on (.read 0x000))).response
      = some ⟨[.header 0, .data 0, .data 12, .data 127], 0⟩ := by decide +kernel

theorem test_time_advances :
    (after .deviceTimeAdvance on).deviceTime = 1
    ∧ (after .deviceTimeAdvance on).returnLine = ⟨none, .sync⟩ := by decide +kernel

/-- GATE opens a row behind a fermata that had not come: the freeze is entered before any release, the rows up to the
fermata sound, and the opened row waits (R88). -/
theorem test_fermata_before_an_opened_row :
    let s := { withHanded (inMode .lead) .gate with
      cues := ((inMode .lead).cues.set 0 { row .pending 8 with fermata := true }).set 1 { row .gated 9 with gateMode := .sound }
      rol := [0, 1], highMark := 9 }
    let t := after .deviceTimeAdvance s
    t.follower.mode = .freeze ∧ t.cues[0].rowState = .listen ∧ t.cues[1].rowState = .pending := by decide +kernel

/-! ### Every statement's hypotheses are met -/

theorem test_witness_StepRunsFrontCommand : on.pending = [] := by rfl

theorem test_witness_ResetReleaseStartsDevice :
    State.reset.resetHeld = true ∧ on.Running := ⟨rfl, rfl⟩

/-- Every line's frame chosen. -/
def chosen : State := { on with
  ports := on.ports.map fun p => { p with line := ⟨some .fill, .fill⟩ }
  returnLine := ⟨some .fill, .fill⟩ }

theorem test_witness_DeviceTimeAdvances :
    exec .stop (withHanded chosen .stop) = .next (chosen.raise Counter.commandsRefused)
    ∧ on.Running ∧ State.reset.resetHeld = true ∧ chosen.Running ∧ chosen.nextOwn = none
    ∧ (∀ d : Division, chosen.ports[d].line.now = some ((fun _ => OutFrame.fill) d))
    ∧ chosen.returnLine.now = some .fill
    ∧ (withHanded chosen .stop).Running ∧ (withHanded chosen .stop).nextOwn = some .stop
    ∧ chosen.PortsSound :=
  ⟨rfl, by decide +kernel⟩

theorem test_witness_SymbolClasses :
    (0x17 : Symbol).ones = 4 ∧ (0x17 : Symbol) ∉ ([0x0F, 0x33, 0x3C, 0xC3, 0xCC, 0xF0] : List Symbol)
    ∧ (0x07 : Symbol).ones = 3 ∧ (0x1F : Symbol).ones = 5 ∧ (0x03 : Symbol).ones < 3 ∧ 5 < (0x3F : Symbol).ones := by
  decide

theorem test_witness_ValueSymbolsAscend :
    (0x17 : Symbol).classify = .value 0 ∧ (0xE8 : Symbol).classify = .value 63 ∧ (62 : Value6) < 63 := by decide

theorem test_witness_NaveFrameKinds :
    [0x0F, 0x33, 0x3C, 0xC3, 0xCC, 0xF0].map Symbol.classify
      = [.control 0, .control 1, .control 2, .control 3, .control 4, .control 5]
    ∧ (0x17 : Symbol).classify = .value 0 ∧ (0xE8 : Symbol).classify = .value 63
    ∧ (0x07 : Symbol).classify.damaged = true ∧ (0x03 : Symbol).classify.damaged = true
    ∧ (0x07 : Symbol).classify ≠ .control 5 ∧ (∀ w, (0x07 : Symbol).classify ≠ .value w) := by decide

/-- `locked` or `on` with the counts of two alignments. -/
def counted (s : State) (a3 a9 : Nat) : State :=
  { s with nave := { s.nave with counts := ((Vector.replicate 16 0).set 3 a3).set 9 a9 } }

theorem test_witness_SyncCountsTowardLock :
    (counted on 10 0).Running ∧ (counted on 10 0).nave.aligned = none
    ∧ min ((counted on 10 0).nave.counts[(3 : Sys2Proof.Alignment)] + 1) 12 < 12
    ∧ 12 ≤ min ((counted on 11 0).nave.counts[(3 : Sys2Proof.Alignment)] + 1) 12
    ∧ locked.nave.aligned = some 3 ∧ locked.tables.control.lockCount = 12
    ∧ 2 * min ((counted locked 12 4).nave.counts[(9 : Sys2Proof.Alignment)] + 1) 12 < 12 := by decide +kernel

theorem test_witness_LockIsLost :
    Time.passed ({ locked with deviceTime := 49 } : State).deviceTime (locked.nave.lastSync + 48) = true
    ∧ ({ locked with deviceTime := 49 } : State).Running ∧ locked.nave.aligned = some 3
    ∧ (9 : Sys2Proof.Alignment) ≠ 3 ∧ locked.tables.control.lockCount
      ≤ 2 * min ((counted locked 12 5).nave.counts[(9 : Sys2Proof.Alignment)] + 1) locked.tables.control.lockCount
    ∧ Time.diff ({ locked with deviceTime := 48 } : State).deviceTime (locked.nave.lastSync + 48) ≤ 0
    ∧ on.nave.aligned = none := by
  decide +kernel

/-- `locked` in the middle of a message. -/
def mid (h : Header) (acting : Bool) (ps : List Data12) : State := { locked with assembly := .assembling ⟨h, acting, ps⟩ }

/-- `locked` with an open stream. -/
def stream (l : LoadStream) : State := { locked with assembly := .streaming l }

theorem test_witness_LoadOpensStream :
    ((mid (.command 2 .load) true [0x43F]).Running
    ∧ (mid (.command 2 .load) true [0x43F]).assembly = .assembling ⟨.command 2 .load, true, [0x43F]⟩
    ∧ tableShape ((0x43F : Data12).extractLsb' 8 4) = some (64, 3) ∧ (0x43F : Data12).toNat % 256 < 64
    ∧ tableShape ((0x440 : Data12).extractLsb' 8 4) = some (64, 3) ∧ 64 ≤ (0x440 : Data12).toNat % 256
    ∧ tableShape ((0x500 : Data12).extractLsb' 8 4) = none ∧ locked.Locked)
    ∧ (∀ addr acting p, locked.assembly ≠ .assembling ⟨.command addr .load, acting, [p]⟩) := by
  exact ⟨by decide +kernel, fun _ _ _ h => nomatch h⟩

theorem test_witness_DataTakenIntoMessage :
    locked.Locked ∧ locked.assembly = .ready
    ∧ (mid (.chord 49) true [1, 2]).Locked
    ∧ (mid (.chord 49) true [1, 2]).assembly = .assembling ⟨.chord 49, true, [1, 2]⟩
    ∧ [(1 : Data12), 2].length + 1 < (Header.chord 49).expected
    ∧ (mid (.chord 0) true [1, 2, 3]).assembly = .assembling ⟨.chord 0, true, [1, 2, 3]⟩
    ∧ (mid (.command 7 .hymn) false [1]).assembly = .assembling ⟨.command 7 .hymn, false, [1]⟩
    ∧ (mid (.command 2 .read) true []).assembly = .assembling ⟨.command 2 .read, true, []⟩
    ∧ (mid (.command 7 .clear) true []).assembly = .assembling ⟨.command 7 .clear, true, []⟩
    ∧ (mid (.command 2 .load) true []).assembly = .assembling ⟨.command 2 .load, true, []⟩ := by decide +kernel

theorem test_witness_DataFillsTableRows :
    (stream ⟨false, 0, 0, []⟩).Locked ∧ (stream ⟨false, 0, 0, []⟩).assembly = .streaming ⟨false, 0, 0, []⟩
    ∧ tableShape 0 = some (1, 2) ∧ 1 ≤ (⟨true, 0, 1, []⟩ : LoadStream).nextRow
    ∧ (⟨true, 0, 0, []⟩ : LoadStream).nextRow < 1 ∧ (⟨true, 0, 0, []⟩ : LoadStream).staged.length + 1 < 2
    ∧ 2 ≤ (⟨true, 0, 0, [14]⟩ : LoadStream).staged.length + 1 := by decide +kernel

theorem test_witness_ChordHeaderTagBase :
    (valueSymbol 47).classify = .value 47 ∧ (valueSymbol 48).classify = .value 48 ∧ (47 : Value6).toNat < 48
    ∧ 48 ≤ (48 : Value6).toNat ∧ (0x07 : Symbol).classify = .flipped ∧ (0x03 : Symbol).classify = .foreign
    ∧ locked.Locked ∧ locked.assembly = .ready ∧ tagBase 0x07 = some 48 := by decide +kernel

/-- `acting` as R16 gives it, for address 2 (the part's own), 3, and 7 with and without READ. -/
theorem test_witness_CommandHeaderOpensMessage :
    locked.Locked ∧ locked.assembly = .ready
    ∧ (headerAddress 0x10 = locked.partAddress ∧ headerAddress 0x10 ≠ 7) ∧ 0 < (headerCode 0x10).expected
    ∧ headerCode 0x14 = .stop ∧ headerCode 0x3D = .gate ∧ headerAddress 0x3D = 7 ∧ headerCode 0x39 = .read
    ∧ headerAddress 0x1C ≠ locked.partAddress ∧ headerCode 0x1C = .stop := by decide +kernel

theorem test_witness_HeaderEndsWhatIsInProgress :
    (mid (.chord 0) true [1]).Locked ∧ (mid (.chord 0) true [1]).NoLoadWaiting ∧ (tagBase 0x07).isSome = true
    ∧ (stream ⟨true, 0, 0, [1]⟩).Locked ∧ (stream ⟨true, 0, 0, [1]⟩).NoLoadWaiting
    ∧ (stream ⟨true, 0, 0, []⟩).NoLoadWaiting ∧ (stream ⟨false, 0, 0, []⟩).NoLoadWaiting := by decide +kernel

theorem test_witness_DamagedAndInterleavedFrames :
    locked.Locked ∧ locked.NoLoadWaiting ∧ locked.assembly = .ready ∧ tagBase 0x0F = none
    ∧ (stream ⟨true, 0, 0, [1]⟩).NoLoadWaiting ∧ (stream ⟨true, 0, 0, [1]⟩).assembly ≠ .ready
    ∧ on.nave.aligned = none := by decide +kernel

theorem test_witness_DivisionRowValidity :
    (⟨0xFD0, 0x000, 40⟩ : DivisionRow).valid = true ∧ (⟨0xFD1, 0x000, 40⟩ : DivisionRow).valid = false
    ∧ (⟨0, 0xFFF, 4000⟩ : DivisionRow).valid = false ∧ (0xFD0 : Data12).toNat % 2048 ≤ 2000
    ∧ (63 : Nat) ≤ 63 ∧ 9 ≤ 63 ∧ 63 ≤ 72 := by decide

theorem test_witness_RowStoredOrRefused :
    (⟨0xFD1, 0, 40⟩ : DivisionRow).valid = false ∧ (on.storeRow 1 1 [400]).tables.loft[1] = 400
    ∧ on.storeRow 1 1 [401] = on.raise Counter.loadRefusals := by decide +kernel

theorem test_witness_ChordRefusedWhole :
    on.Running ∧ (withHanded on (.chord 1 0 0x0FF 0 0)).handed = .chord 1 0 0x0FF 0 0 :: []
    ∧ (0x000 : Data12).toNat / 256 = 0 ∧ (0x0C0 : Data12).toNat / 64 % 4 = 3
    ∧ (0x100 : Data12).toNat / 256 ≠ 0 ∧ (0x100 : Data12).toNat / 64 % 4 ≠ 3 ∧ on.follower.mode = .idle := by
  decide +kernel

theorem test_witness_ChordPlacesItsSubBeats :
    (withHanded (inMode .countIn) (.chord 1 0 0xF80 0 0)).Running
    ∧ (withHanded (inMode .countIn) (.chord 1 0 0xF80 0 0)).handed = .chord 1 0 0xF80 0 0 :: []
    ∧ (0xF80 : Data12).toNat / 64 % 4 = 2 ∧ (0x100 : Data12).toNat / 64 % 4 = 0 ∧ (0x140 : Data12).toNat / 64 % 4 = 1
    ∧ (0xF80 : Data12).toNat / 256 ≠ 0 ∧ (inMode .countIn).follower.mode ≠ .idle
    ∧ (0xF80 : Data12).getLsbD (11 - (0 : Fin 4).val) = true ∧ (0x100 : Data12).getLsbD (11 - (3 : Fin 4).val) = true
    ∧ ((row .pending 8).position : Int) ≤ (withRow on (row .pending 8)).highMark
    ∧ (withRow on (row .pending 8)).highMark < ((row .pending 9).position : Int)
    ∧ (withRow on (row .pending 8)).cues[(0 : RowNumber)].rowState ≠ .empty
    ∧ (withRow on (row .pending 8)).cues[(1 : RowNumber)].rowState = .empty := by decide +kernel

/-- `inMode m` with row 0, at anchor age `age`. -/
def aged (m : Mode) (c : CueRow) (age : Int) : State :=
  { withRow (inMode m) c with follower := { (inMode m).follower with age := age } }

theorem test_witness_ListenRowExpires :
    (aged .lead (row .listen 4) 1876).Running
    ∧ (aged .lead (row .listen 4) 1876).cues[(0 : RowNumber)].rowState = .listen
    ∧ (aged .lead (row .listen 4) 1876).follower.defines 4 = true
    ∧ (aged .lead (row .listen 4) 1876).follower.offset 4 + ((inMode .lead).follower.window : Int) < 1876
    ∧ (aged .lead (row .listen 4) 1875).follower.age
      ≤ (aged .lead (row .listen 4) 1875).follower.offset 4 + ((inMode .lead).follower.window : Int)
    ∧ (aged .lead (row .releasing 4) 1876).cues[(0 : RowNumber)].rowState ≠ .listen
    ∧ (aged .idle (row .listen 4) 1876).follower.defines 4 = false := by
  decide +kernel

theorem test_witness_HymnAccepted :
    (withHanded on (.hymn 0xF7E 30)).Running ∧ (withHanded on (.hymn 0xF7E 30)).handed = .hymn 0xF7E 30 :: []
    ∧ on.follower.mode = .idle ∧ (0xF7E : Data12).toNat / 32 % 16 ≤ 11 ∧ (0xF7E : Data12).toNat % 2 = 0
    ∧ 30 ≤ (30 : Data12).toNat ∧ (200 : Data12).toNat ≤ 200 ∧ (7 : Fin 8).val = (0xF7E : Data12).toNat / 512
    ∧ on.tables.profile[(7 : Fin 8)].w2.toNat % 4 = 2 ∧ (1040 : Data12).toNat % 4 = 0 ∧ (1041 : Data12).toNat % 4 = 1 := by
  decide +kernel

theorem test_witness_CommandsRefused :
    on.Running ∧ (withHanded on .stop).handed = .stop :: [] ∧ on.follower.mode = .idle
    ∧ (inMode .lead).follower.mode ≠ .idle ∧ 11 < (0x180 : Data12).toNat / 32 % 16 ∧ (1 : Data12).toNat % 2 = 1
    ∧ (29 : Data12).toNat < 30 ∧ 200 < (201 : Data12).toNat ∧ on.rol = []
    ∧ (inMode .lead).follower.mode ≠ .countIn ∧ (inMode .lead).follower.mode ≠ .starved
    ∧ (∀ r ∈ (inMode .lead).rol, (inMode .lead).cues[r].rowState ≠ .gated)
    ∧ (inMode .countIn).follower.mode = .countIn ∧ (inMode .starved).follower.mode = .starved
    ∧ 16 ≤ (16 : Data12).toNat ∧ (0 : Data12).toNat = 0 ∧ 4 ≤ (4 : Data12).toNat
    ∧ (withHanded on .stop).handed.head?.map Handed.event = some .stop ∧ Handed.event .stop ≠ .gate := by decide +kernel

theorem test_witness_StartAccepted :
    let s := withHanded (withRow (inMode .starved) (row .pending 8)) (.start 0xFFF)
    s.Running ∧ s.handed = .start 0xFFF :: [] ∧ s.follower.mode = .starved ∧ s.rol = [0]
      ∧ (inMode .countIn).follower.mode = .countIn := by decide +kernel

theorem test_witness_StopAccepted :
    let s := withHanded (inMode .freeze) .stop
    s.Running ∧ s.handed = .stop :: [] ∧ s.follower.mode ≠ .idle := by decide +kernel

/-- The silence span of the default profile at period 24000 is 12000. -/
theorem test_witness_SilenceFallsToLead :
    let s := { inMode .follow with deviceTime := 12001 }
    s.Running ∧ s.follower.mode = .follow
      ∧ 0 < Time.diff s.deviceTime
        (s.follower.lastMatch + BitVec.ofNat 24 (s.follower.profile.silence * s.follower.period / 16))
      ∧ Time.diff ({ s with deviceTime := 12000 } : State).deviceTime
        (s.follower.lastMatch + BitVec.ofNat 24 (s.follower.profile.silence * s.follower.period / 16)) ≤ 0
      ∧ (inMode .lead).follower.mode ≠ .follow := by
  decide +kernel

theorem test_witness_FreezeEntered :
    let s := aged .lead { row .pending 4 with fermata := true } 1500
    s.Running ∧ s.follower.mode = .lead ∧ s.cues[(0 : RowNumber)].position = 4
      ∧ s.cues[(0 : RowNumber)].rowState ≠ .empty ∧ s.cues[(0 : RowNumber)].fermata = true
      ∧ s.follower.lastFreeze < 4 ∧ s.follower.offset 4 ≤ s.follower.age
      ∧ (∀ x : RowNumber, s.cues[x].rowState ≠ .empty → x = 0)
      ∧ (aged .follow { row .pending 4 with fermata := true } 1500).follower.mode = .follow
      ∧ (aged .lead { row .pending 4 with fermata := true } 1499).follower.age < s.follower.offset 4
      ∧ (inMode .freeze).follower.mode ≠ .lead ∧ (inMode .freeze).follower.mode ≠ .follow := by decide +kernel

/-- The starve limit of the default profile at period 24000 is 12000. -/
theorem test_witness_StarvationEntered :
    let s := aged .follow (row .listen 0) 12001
    s.Running ∧ s.follower.mode = .follow ∧ (aged .lead (row .listen 0) 12001).follower.mode = .lead
      ∧ (∀ x ∈ s.rol, s.cues[x].rowState ≠ .pending ∧ s.cues[x].rowState ≠ .gated)
      ∧ 0 = s.follower.lastReleased.getD s.follower.ba
      ∧ s.follower.offset 0 + ((s.follower.profile.starve * s.follower.period / 16 : Nat) : Int)
        < s.follower.age
      ∧ (aged .follow (row .listen 0) 12000).follower.age
        ≤ s.follower.offset 0 + ((s.follower.profile.starve * s.follower.period / 16 : Nat) : Int)
      ∧ (inMode .starved).follower.mode ≠ .lead ∧ (inMode .starved).follower.mode ≠ .follow
      ∧ ¬ ∀ x ∈ (aged .follow (row .pending 0) 12001).rol, (aged .follow (row .pending 0) 12001).cues[x].rowState ≠ .pending
        ∧ (aged .follow (row .pending 0) 12001).cues[x].rowState ≠ .gated := by decide +kernel

/-- A GATED row. -/
def gatedRow (q : Nat) (m : GateMode) (t : Option Time) : CueRow := { row .gated q with gateMode := m, armed := t }

theorem test_witness_GateOpensEarliestRow :
    let s := withHanded (withRow (inMode .lead) (gatedRow 4 .sound none)) .gate
    let z := withHanded (withRow (inMode .freeze) (gatedRow 4 .sound none)) .gate
    let y := withHanded (withRow (inMode .freeze) (gatedRow 5 .drop none)) .gate
    s.Running ∧ s.handed = .gate :: [] ∧ s.follower.mode = .lead ∧ s.earliestGated = some 0
      ∧ (inMode .follow).follower.mode = .follow
      ∧ z.Running ∧ z.handed = .gate :: [] ∧ z.follower.mode = .freeze ∧ z.follower.freeze = some ⟨4, 0, .lead⟩
      ∧ z.earliestGated = some 0 ∧ z.cues[(0 : RowNumber)].position ≤ 4
      ∧ y.follower.freeze = some ⟨4, 0, .lead⟩ ∧ y.earliestGated = some 0
      ∧ 4 < y.cues[(0 : RowNumber)].position := by decide +kernel

theorem test_witness_GatedRowArmsAndExpires_arms :
    let s := aged .lead (gatedRow 4 .sound none) 1500
    let z := aged .freeze (gatedRow 4 .sound none) 1500
    s.Running ∧ s.follower.mode = .lead ∧ s.earliestGated = some 0 ∧ s.follower.defines 4 = true
      ∧ s.follower.offset s.cues[(0 : RowNumber)].position ≤ s.follower.age ∧ s.cues[(0 : RowNumber)].armed = none
      ∧ z.follower.mode = .freeze ∧ z.follower.defines 4 = true
      ∧ (aged .follow (gatedRow 4 .sound none) 1500).follower.mode = .follow
      ∧ on.earliestGated = none ∧ (withRow (inMode .lead) (gatedRow 4 .sound (some 0))).earliestGated = some 0
      ∧ (withRow (inMode .lead) (gatedRow 4 .sound (some 0))).cues[(0 : RowNumber)].armed.isSome = true := by
  decide +kernel

/-- The gate limit of the default profile at period 24000 is 6000. -/
theorem test_witness_GatedRowArmsAndExpires_expires :
    let s := { withRow (inMode .lead) (gatedRow 4 .sound (some 0)) with deviceTime := 6001 }
    s.Running ∧ s.earliestGated = some 0 ∧ s.cues[(0 : RowNumber)].armed = some 0
      ∧ 0 < Time.diff s.deviceTime
        (0 + BitVec.ofNat 24 (s.follower.profile.gate * s.follower.period / 16))
      ∧ s.cues[(0 : RowNumber)].gateMode = .sound
      ∧ (withRow (inMode .lead) (gatedRow 4 .drop (some 0))).cues[(0 : RowNumber)].gateMode = .drop
      ∧ Time.diff ({ s with deviceTime := 6000 } : State).deviceTime
        (0 + BitVec.ofNat 24 (s.follower.profile.gate * s.follower.period / 16)) ≤ 0
      ∧ on.earliestGated = none := by
  decide +kernel

/-- The fermata limit of the default profile at period 24000 is 6000. -/
theorem test_witness_FermataExpires :
    let s := { withRow (inMode .freeze) (row .pending 5) with deviceTime := 6001 }
    let e := { inMode .freeze with deviceTime := 6001 }
    s.Running ∧ s.follower.mode = .freeze ∧ s.follower.freeze = some ⟨4, 0, .lead⟩
      ∧ 0 < Time.diff s.deviceTime
        (0 + BitVec.ofNat 24 (s.follower.profile.fermata * s.follower.period / 16))
      ∧ s.rol.find? (fun x => decide (4 < s.cues[x].position)) = some 0
      ∧ (∀ x ∈ e.rol, e.cues[x].position ≤ 4)
      ∧ Time.diff ({ e with deviceTime := 6000 } : State).deviceTime
        (0 + BitVec.ofNat 24 (s.follower.profile.fermata * s.follower.period / 16)) ≤ 0
      ∧ on.follower.freeze = none := by decide +kernel

/-- The onset 0x08 is of the east loft, strength 1, offset 0. The profile admits the west loft alone in `westLed`. -/
def westLed (s : State) : State :=
  { s with follower := { s.follower with profile := { s.follower.profile with leadLoft := .west, minStrength := 1 } } }

theorem test_witness_OnsetIgnoredOrUnmatched :
    locked.Locked ∧ locked.follower.mode = .idle ∧ (7 : Value6).toNat / 8 % 4 < (westLed locked).follower.profile.minStrength
    ∧ (westLed locked).follower.profile.minStrength ≤ (8 : Value6).toNat / 8 % 4
    ∧ (inMode .countIn).follower.mode = .countIn
    ∧ (inMode .lead).Locked ∧ (inMode .lead).choose .east ((inMode .lead).adjustedTime 8) = none
    ∧ (westLed (inMode .lead)).follower.profile.leadLoft.admits .east = false
    ∧ (inMode .freeze).follower.freeze = some ⟨4, 0, .lead⟩
    ∧ (inMode .freeze).chooseFrozen .east ((inMode .freeze).adjustedTime 8) 4 = none
    ∧ (∀ x ∈ (inMode .freeze).rol, 4 < (inMode .freeze).cues[x].position →
        (inMode .freeze).cues[x].syllable = true → (inMode .freeze).cues[x].mark .east = true)
    ∧ (inMode .starved).follower.mode = .starved
    ∧ (∀ x ∈ (inMode .starved).rol, (inMode .starved).cues[x].syllable = true →
        (inMode .starved).cues[x].mark .east = true) := by decide +kernel

/-- Two rows, at positions 4 and 5. -/
def twoRows : State := { aged .lead (row .pending 4) 1500 with
  cues := (aged .lead (row .pending 4) 1500).cues.set 1 (row .pending 5), rol := [0, 1], highMark := 5 }

theorem test_witness_NearestCandidateChosen :
    twoRows.PositionsSound ∧ twoRows.choose .east 0 = some 0 ∧ twoRows.candidate .east 0 1 = true
    ∧ (1 : RowNumber) ≠ 0 ∧ twoRows.chooseFrozen .east 0 4 = some 0 ∧ twoRows.chooseFrozen .east 0 5 = some 0
    ∧ twoRows.cues[(1 : RowNumber)].position ≤ 5 ∧ twoRows.chooseFrozen .east 0 3 = none := by
  have filledRows : ∀ r : RowNumber, twoRows.cues[r].rowState ≠ .empty → r = 0 ∨ r = 1 := by decide +kernel
  refine ⟨⟨by decide +kernel, fun a b ha hb h => ?_, by decide +kernel⟩, by decide +kernel⟩
  rcases filledRows a ha with rfl | rfl <;> rcases filledRows b hb with rfl | rfl <;> revert h <;> decide +kernel

theorem test_witness_LeadOnsetCorrectsClock :
    let s := aged .follow (row .listen 4) 1510
    s.Locked ∧ s.follower.mode = .follow ∧ s.follower.profile.minStrength ≤ (8 : Value6).toNat / 8 % 4
      ∧ s.follower.profile.leadLoft.admits .east = true ∧ s.choose .east (s.adjustedTime 8) = some 0
      ∧ s.cues[(0 : RowNumber)].rowState ≠ .gated ∧ s.updateMarks[(0 : RowNumber)] = false
      ∧ (aged .lead (row .listen 4) 1510).choose .west ((aged .lead (row .listen 4) 1510).adjustedTime 0x28) = some 0 := by
  decide +kernel

theorem test_witness_PeriodStep :
    (inMode .lead).follower.mode ≠ .follow ∧ (inMode .follow).follower.prevUpdate = some 0
    ∧ ((1 : Nat) : Int) - ((0 : Nat) : Int) < 2 ∧ (inMode .follow).follower.mode = .follow
    ∧ 2 ≤ ((2 : Nat) : Int) - ((0 : Nat) : Int)
    ∧ (inMode .follow).follower.profile.pmin ≤ (inMode .follow).follower.profile.pmax := by decide +kernel

theorem test_witness_LeadOnsetOpensGate :
    let s := aged .lead (gatedRow 4 .drop (some 0)) 9000
    s.Locked ∧ s.follower.mode = .lead ∧ s.follower.profile.minStrength ≤ (8 : Value6).toNat / 8 % 4
      ∧ s.follower.profile.leadLoft.admits .east = true ∧ s.choose .east (s.adjustedTime 8) = some 0
      ∧ s.cues[(0 : RowNumber)].rowState = .gated
      ∧ (aged .follow (gatedRow 4 .drop none) 1125).choose .east 0 = some 0 := by decide +kernel

theorem test_witness_OnsetOnlyMarks :
    let s := westLed (aged .lead (row .pending 4) 1500)
    let u := { aged .follow (row .pending 4) 1500 with updateMarks := (Vector.replicate 200 false).set 0 true }
    let z := aged .freeze (row .releasing 4) 1500
    s.Locked ∧ s.choose .east (s.adjustedTime 8) = some 0 ∧ s.follower.profile.leadLoft.admits .east = false
      ∧ s.follower.profile.minStrength ≤ (8 : Value6).toNat / 8 % 4
      ∧ u.choose .east (u.adjustedTime 8) = some 0 ∧ u.cues[(0 : RowNumber)].rowState ≠ .gated
      ∧ u.updateMarks[(0 : RowNumber)] = true
      ∧ z.follower.freeze = some ⟨4, 0, .lead⟩ ∧ z.chooseFrozen .east (z.adjustedTime 8) 4 = some 0 := by
  decide +kernel

/-- Two rows, at positions 5 and 6, of which the east loft has marked the first. -/
def markedFirst (m : Mode) : State := { aged m { row .pending 5 with eastMark := true } 0 with
  cues := ((aged m (row .pending 5) 0).cues.set 0 { row .pending 5 with eastMark := true }).set 1 (row .gated 6)
  rol := [0, 1], highMark := 6 }

theorem test_witness_LeadOnsetEndsWait :
    let z := aged .freeze (gatedRow 5 .sound none) 0
    let m := markedFirst .freeze
    let s := markedFirst .starved
    z.Locked ∧ z.follower.profile.minStrength ≤ (8 : Value6).toNat / 8 % 4
      ∧ z.follower.profile.leadLoft.admits .east = true ∧ z.cues[(0 : RowNumber)].mark .east = false
      ∧ z.follower.freeze = some ⟨4, 0, .lead⟩ ∧ z.chooseFrozen .east (z.adjustedTime 8) 4 = none
      ∧ z.rol.find? (fun x => decide (4 < z.cues[x].position) && z.cues[x].syllable) = some 0
      ∧ m.Locked ∧ m.follower.freeze = some ⟨4, 0, .lead⟩ ∧ m.chooseFrozen .east (m.adjustedTime 8) 4 = none
      ∧ m.rol.find? (fun x => decide (4 < m.cues[x].position) && m.cues[x].syllable && !m.cues[x].mark .east) = some 1
      ∧ s.Locked ∧ s.follower.mode = .starved
      ∧ s.rol.find? (fun x => s.cues[x].syllable && !s.cues[x].mark .east) = some 1 := by decide +kernel

theorem test_witness_ReleaseMarkSet :
    (∃ e : Division, ((row .pending 4).released.set 1 true)[e] = false)
    ∧ (∀ e : Division, ((#v[true, false, true, true] : Vector Bool 4).set 1 true)[e] = true) := by decide

/-- The default division table gives a lead time of 0: row 0 at position 4 is due at age 1500. -/
theorem test_witness_ReleaseWithoutWords :
    let s := withPort (aged .lead (row .pending 4) 1500) { Port.reset with state := .off }
    let t := withPort (aged .freeze (row .releasing 4) 1500) { Port.reset with state := .stalled }
    s.Running ∧ s.held[(1 : Division)] = none ∧ s.dueRow 1 = some 0 ∧ s.ports[(1 : Division)].state = .off
      ∧ t.dueRow 1 = some 0 ∧ t.ports[(1 : Division)].state = .stalled := by decide +kernel

/-- In STARVED a marked syllable row is passed over (R79). -/
theorem test_starvation_exit_passes_marked_rows :
    let s := after (.onset 0x08) (markedFirst .starved)
    s.follower.mode = .lead ∧ s.follower.ba = 6 ∧ s.cues[1].rowState = .pending ∧ s.counters[9] = 1 := by decide +kernel

/-- Port 1 with `n` words queued. -/
def filled (n : Nat) : Port := { Port.reset with owedAllOff := false, queue := List.replicate n .allOff }

theorem test_witness_ReleaseEntersOrIsHeld :
    let s := withPort (aged .lead (row .pending 4) 1500) (filled 10)
    let t := withPort (aged .lead (row .pending 4) 1500) (filled 11)
    s.Running ∧ s.held[(1 : Division)] = none ∧ s.dueRow 1 = some 0 ∧ s.ports[(1 : Division)].state = .active
      ∧ s.ports[(1 : Division)].owedAllOff = false
      ∧ (s.computeCue 1 0).run.length ≤ 12 - s.ports[(1 : Division)].queue.length
      ∧ t.dueRow 1 = some 0 ∧ 12 - t.ports[(1 : Division)].queue.length < (t.computeCue 1 0).run.length
      ∧ Port.reset.owedAllOff = true
      ∧ (aged .lead (row .pending 4) 1499).dueRow 1 = none
      ∧ ({ s with held := s.held.set 1 (some 0) } : State).held[(1 : Division)].isSome = true := by decide +kernel

/-- Port 1 WAITING on row 0 since time 0, with `n` words queued. -/
def waitingAt (n : Nat) : State :=
  { withPort (aged .lead (row .pending 4) 1500)
      { filled n with state := .waiting, waitingSince := some 0, offerDue := true } with
    held := (Vector.replicate 4 none).set 1 (some 0) }

theorem test_witness_HeldReleaseOffered :
    (waitingAt 10).Running ∧ (waitingAt 10).held[(1 : Division)] = some 0
    ∧ (waitingAt 10).ports[(1 : Division)].state = .waiting ∧ (waitingAt 10).ports[(1 : Division)].offerDue = true
    ∧ (waitingAt 10).ports[(1 : Division)].owedAllOff = false
    ∧ ((waitingAt 10).computeCue 1 0).run.length ≤ 12 - (waitingAt 10).ports[(1 : Division)].queue.length
    ∧ 12 - (waitingAt 11).ports[(1 : Division)].queue.length < ((waitingAt 11).computeCue 1 0).run.length
    ∧ on.held[(1 : Division)] = none ∧ on.ports[(1 : Division)].state ≠ .waiting
    ∧ on.ports[(1 : Division)].offerDue = false := by
  decide +kernel

/-- A division row: enabled with a lead and a stall limit. -/
def divisionRow (lead limit : Nat) : DivisionRow := ⟨BitVec.ofNat 12 (2048 + lead), 0, BitVec.ofNat 12 limit⟩

/-- Two rows, 0 and 1, due to every division a little later: at positions 4 and 5, ages 1500 and 1875. -/
def soonDue : State := { aged .lead (row .pending 4) 1400 with
  cues := ((aged .lead (row .pending 4) 1400).cues.set 1 (row .pending 5)), rol := [0, 1], highMark := 5 }

/-- A raised lead releases both rows in the event of the write; a division it disables marks them without words; a lowered
stall limit stalls the port at once (R151, R163). -/
theorem test_division_write_is_one_event :
    let s := soonDue.storeRow 2 1 [2048 + 475, 0, 400]
    let t := soonDue.storeRow 2 1 [475, 0, 400]
    let u := ({ waitingAt 12 with deviceTime := 101 } : State).storeRow 2 1 [2048, 0, 100]
    s.cues[0].released[1] = true ∧ s.cues[1].released[1] = true ∧ s.ports[1].queue.length = 2
      ∧ t.cues[0].released[1] = true ∧ t.cues[1].released[1] = true ∧ t.ports[1].state = .off ∧ t.ports[1].queue = []
      ∧ u.ports[1].state = .stalled ∧ u.counters[19] = 1 ∧ u.held[1] = none := by decide +kernel

theorem test_witness_DivisionRowWritten :
    exec (.stall 1) (waitingAt 12) = .next (after (.stall 1) (waitingAt 12))
    ∧ soonDue.Running ∧ (divisionRow 475 400).valid = true ∧ (divisionRow 475 400).w0.toNat % 2048 ≠ 0
    ∧ on.tables.division[(1 : Division)].w0.toNat % 2048 = 0 ∧ on.tables.division[(1 : Division)].w2.toNat = 400
    ∧ (divisionRow 0 399).valid = true ∧ (divisionRow 0 399).w2.toNat < 400
    ∧ ((divisionRow 0 400).w0.toNat < 2048 ↔ on.ports[(1 : Division)].state = .off)
    ∧ (⟨2000, 0, 40⟩ : DivisionRow).valid = true ∧ (2000 : Data12).toNat < 2048
    ∧ on.ports[(1 : Division)].state ≠ .off ∧ on.held[(1 : Division)] = none
    ∧ (waitingAt 12).held[(1 : Division)] = some 0 ∧ (waitingAt 12).ports[(1 : Division)].state ≠ .off
    ∧ 2048 ≤ (2048 : Data12).toNat ∧ (withPort on { Port.reset with state := .off }).ports[(1 : Division)].state = .off :=
  ⟨rfl, by decide +kernel⟩

/-- A word leaves, and then the stall limit is judged: the held run fits first, and no stall occurs (R157). -/
theorem test_offer_before_stall :
    let s := { waitingAt 10 with deviceTime := 401 }
    (after (.stall 1) s).ports[1].state = .active ∧ (after (.stall 1) s).ports[1].queue.length = 12
    ∧ (after (.stall 1) { waitingAt 12 with deviceTime := 401 }).ports[1].state = .stalled := by decide +kernel

theorem test_witness_RunAtMostTenWords :
    DivisionRecord.silent.Sound ∧ RegistrationRow.plays ⟨8, 0, 0⟩ .bass = true
    ∧ RegistrationRow.plays ⟨8, 0, 0⟩ .tenor = false ∧ (62 : Value6).toNat ≤ 62 := by decide +kernel

theorem test_witness_KeyMapAndKeyEvents :
    (3 : BitVec 4).toNat = ((7 : BitVec 4).toNat + (12 : BitVec 4).toNat) % 16
    ∧ (14 : Fin 64).val = (3 : BitVec 4).toNat * 4 + (2 : Division).val ∧ ([] : List Int).Nodup ∧ (applySteps ⟨124, 0, 0⟩ 0 72 0 3 ⟨30, 0, 0, 0⟩ DivisionRecord.silent).dropped = 0
    ∧ (applySteps ⟨124, 0, 0⟩ 30 72 0 3 ⟨30, 31, 30, 0⟩ DivisionRecord.silent).dropped = 2 := by decide +kernel

theorem test_witness_AllOffEnters :
    let s := withPort on { filled 11 with owedAllOff := true }
    let w := withPort on { filled 11 with owedAllOff := true, state := .waiting }
    s.Running ∧ s.ports[(1 : Division)].owedAllOff = true ∧ s.ports[(1 : Division)].queue.length < 12
      ∧ s.ports[(1 : Division)].state = .active ∧ w.ports[(1 : Division)].state = .waiting
      ∧ on.ports[(1 : Division)].owedAllOff = false ∧ 12 ≤ (filled 12).queue.length
      ∧ (Port.disabled (filled 0)).state = .off ∧ (Port.stalled (filled 0)).state = .stalled := by decide +kernel

/-- Device time `n`, and port 1 as given. -/
def inSlot (n : Time) (p : Port) : State := withPort { on with deviceTime := n } p

theorem test_witness_SlotFrameChosen :
    let p := filled 1
    let h : Port := { filled 1 with transmission := some 5 }
    let w : Port := { filled 1 with credits := 1 }
    (inSlot 32 p).Running ∧ p = (inSlot 32 p).ports[(1 : Division)] ∧ p.line.now = none
    ∧ (inSlot 32 p).deviceTime.toNat % 32 = 0
    ∧ h = (inSlot 31 h).ports[(1 : Division)] ∧ (inSlot 31 h).deviceTime.toNat % 32 ≠ 0 ∧ h.transmission = some 5
    ∧ w = (inSlot 30 w).ports[(1 : Division)] ∧ (inSlot 30 w).deviceTime.toNat % 32 ≠ 0
    ∧ (inSlot 30 w).deviceTime.toNat % 32 ≠ 31 ∧ w.state = .active ∧ w.queue = .allOff :: [] ∧ 1 ≤ w.credits
    ∧ w.transmission = none
    ∧ (inSlot 31 (filled 1)).deviceTime.toNat % 32 = 31 ∧ (filled 0).queue = [] ∧ (filled 1).credits = 0
    ∧ Port.disabled (filled 1) = (inSlot 1 (Port.disabled (filled 1))).ports[(1 : Division)]
    ∧ (Port.disabled (filled 1)).state = .off ∧ (Port.stalled (filled 1)).state = .stalled
    ∧ chosen.ports[(1 : Division)].line.now = some .fill
    ∧ (inSlot 31 h).Running ∧ (inSlot 31 h).nextOwn = none ∧ (inSlot 31 h).ports[(0 : Division)].line.now = none
    ∧ (inSlot 31 h).ports[(0 : Division)].transmission = none ∧ (inSlot 31 h).ports[(1 : Division)].transmission = some 5
    ∧ (inSlot 32 h).nextOwn = none ∧ (inSlot 32 h).ports[(1 : Division)].line.now = none
    ∧ chosen.Running ∧ chosen.nextOwn = none := by decide +kernel

/-- Port 1 in a state, its receive lock taken, with `n` credits. -/
def creditPort (st : PortState) (n : Nat) : State :=
  withPort on { Port.reset with state := st, credits := n, rx := { FrameLock.reset with aligned := some 0 } }

theorem test_witness_CreditTaken :
    (creditPort .active 3).Running ∧ (creditPort .active 3).ports[(1 : Division)].rx.aligned.isSome = true
    ∧ 1 ≤ (3 : Value6).toNat ∧ (6 : Value6).toNat ≤ 6
    ∧ (creditPort .active 3).ports[(1 : Division)].credits + (3 : Value6).toNat ≤ 6
    ∧ 6 < (creditPort .waiting 4).ports[(1 : Division)].credits + (3 : Value6).toNat
    ∧ (creditPort .waiting 4).ports[(1 : Division)].state = .waiting
    ∧ (creditPort .off 0).ports[(1 : Division)].state = .off
    ∧ (creditPort .stalled 0).ports[(1 : Division)].state = .stalled
    ∧ on.ports[(1 : Division)].rx.aligned = none ∧ 6 < (7 : Value6).toNat := by decide +kernel

theorem test_witness_PortStalls :
    let s := { waitingAt 12 with deviceTime := 401 }
    s.Running ∧ s.ports[(1 : Division)].state = .waiting ∧ s.held[(1 : Division)] = some 0
      ∧ s.ports[(1 : Division)].waitingSince = some 0
      ∧ 0 < Time.diff s.deviceTime (0 + BitVec.ofNat 24 s.tables.division[(1 : Division)].w2.toNat)
      ∧ s.ports[(1 : Division)].offerDue = true ∧ 12 - s.ports[(1 : Division)].queue.length < (s.computeCue 1 0).run.length
      ∧ Time.diff ({ s with deviceTime := 400 } : State).deviceTime
        (0 + BitVec.ofNat 24 s.tables.division[(1 : Division)].w2.toNat) ≤ 0
      ∧ on.ports[(1 : Division)].state ≠ .waiting
      ∧ (waitingAt 10).ports[(1 : Division)].offerDue = true ∧ (waitingAt 10).ports[(1 : Division)].owedAllOff = false
      ∧ ((waitingAt 10).computeCue 1 0).run.length ≤ 12 - (waitingAt 10).ports[(1 : Division)].queue.length := by
  decide +kernel

/-- Counts of a receive lock: alignment 2, the lock alignment or none, and alignment 7. -/
def rxLock (b : Option Sys2Proof.Alignment) (c2 c7 : Nat) : FrameLock :=
  { FrameLock.reset with aligned := b, counts := ((Vector.replicate 16 0).set 2 c2).set 7 c7 }

/-- Port 1 with such a lock. -/
def rxPort (b : Option Sys2Proof.Alignment) (c2 c7 : Nat) : State :=
  withPort on { Port.reset with rx := rxLock b c2 c7 }

theorem test_witness_ReceiveLock :
    (rxPort none 2 0).Running ∧ rxLock none 2 0 = (rxPort none 2 0).ports[(1 : Division)].rx
    ∧ (rxLock none 2 0).aligned = none ∧ min ((rxLock none 2 0).counts[(2 : Sys2Proof.Alignment)] + 1) 4 < 4
    ∧ rxLock none 3 0 = (rxPort none 3 0).ports[(1 : Division)].rx
    ∧ min ((rxLock none 3 0).counts[(2 : Sys2Proof.Alignment)] + 1) 4 = 4
    ∧ rxLock (some 2) 4 0 = (rxPort (some 2) 4 0).ports[(1 : Division)].rx
    ∧ (rxLock (some 2) 4 0).aligned = some 2 ∧ (7 : Sys2Proof.Alignment) ≠ 2
    ∧ min ((rxLock (some 2) 4 0).counts[(7 : Sys2Proof.Alignment)] + 1) 4 < 2
    ∧ rxLock (some 2) 4 1 = (rxPort (some 2) 4 1).ports[(1 : Division)].rx
    ∧ 2 ≤ min ((rxLock (some 2) 4 1).counts[(7 : Sys2Proof.Alignment)] + 1) 4
    ∧ 0 < Time.diff ({ rxPort (some 2) 4 0 with deviceTime := 49 } : State).deviceTime
      ((rxLock (some 2) 4 0).lastSync + 48)
    ∧ Time.diff ({ rxPort (some 2) 4 0 with deviceTime := 48 } : State).deviceTime
      ((rxLock (some 2) 4 0).lastSync + 48) ≤ 0 := by decide +kernel

theorem test_witness_FlushNamedDivisions :
    (withHanded on (.flush 15)).Running ∧ (withHanded on (.flush 15)).handed = .flush 15 :: []
    ∧ (15 : Data12).toNat < 16 := by decide +kernel

theorem test_witness_ReadAnsweredOrRefused :
    (withHanded on (.read 0x6C7)).Running ∧ (withHanded on (.read 0x6C7)).handed = .read 0x6C7 :: []
    ∧ on.response = none ∧ on.readWords 6 200 = none ∧ on.readWords 10 0 = none
    ∧ (on.readWords 6 199).isSome = true ∧ (on.readWords 7 5).isSome = true
    ∧ ({ on with response := some ⟨[.header 0], 0⟩ } : State).response.isSome = true := by decide +kernel

theorem test_witness_CountersAndFlags :
    (withHanded on (.clear 1)).Running ∧ (withHanded on (.clear 1)).handed = .clear 1 :: [] := by decide +kernel

/-- Device time `t`, the chest lines chosen, and a response of two frames of which none is sent. -/
def answering (t : Time) : State := { chosen with
  deviceTime := t, returnLine := Line.idle, response := some ⟨[] ++ OutFrame.header 9 :: [.data 0], ([] : List OutFrame).length⟩ }

/-- The same with the chest lines not chosen yet. -/
def midway (t : Time) : State := { answering t with ports := on.ports }

theorem test_witness_BeaconAndResponse :
    let s := { on with deviceTime := 30 }
    let r := { on with deviceTime := 31, response := some ⟨[OutFrame.header 9] ++ [OutFrame.data 5], 1⟩ }
    s.Running ∧ s.returnLine.now = none ∧ s.response = none ∧ s.beaconHalf = none ∧ s.deviceTime.toNat % 32 ≠ 0
      ∧ s.deviceTime.toNat % 32 ≠ 31 ∧ (32 : Time).toNat % 32 = 0 ∧ (31 : Time).toNat % 32 = 31
      ∧ ({ s with beaconHalf := some 7 } : State).beaconHalf = some 7
      ∧ r.Running ∧ r.returnLine.now = none ∧ r.beaconHalf = none ∧ r.deviceTime.toNat % 32 ≠ 0
      ∧ r.response = some ⟨[OutFrame.header 9] ++ [OutFrame.data 5], [OutFrame.header 9].length⟩
      ∧ (answering 5).Running ∧ (answering 5).nextOwn = none
      ∧ (∀ d : Division, (answering 5).ports[d].line.now = some .fill)
      ∧ (answering 5).returnLine.now = none
      ∧ (answering 5).chooseReturn.returnLine.now = some (.header 9)
      ∧ (answering 32).nextOwn = none ∧ (answering 32).chooseReturn.returnLine.now = some .sync
      ∧ chosen.returnLine.now.isSome = true ∧ (answering 5).response.isSome = true
      ∧ (∀ d : Division, (midway 5).ports[d].line.now = none) ∧ (midway 5).Running ∧ (midway 5).nextOwn = none
      ∧ (midway 5).returnLine.now = none ∧ (midway 5).chooseReturn.returnLine.now = some (.header 9)
      ∧ ({ midway 31 with beaconHalf := some 7 } : State).nextOwn = none
      ∧ ({ midway 31 with beaconHalf := some 7 } : State).chooseReturn.returnLine.now = some (.data 7)
      ∧ ({ midway 5 with returnLine := ⟨some .fill, .fill⟩ } : State).nextOwn = none
      ∧ (answering 5).response = some ⟨[.header 9, .data 0], 0⟩ ∧ 0 + 1 ≠ [OutFrame.header 9, .data 0].length := by
  decide +kernel

/-- The invariants hold of a state with a held release, and the step from it answers a next state. -/
theorem test_witness_PortsStaySound_ClockStaysSound_RecordsStaySound_CuesStaySound :
    (waitingAt 12).PortsSound ∧ (waitingAt 12).ClockSound ∧ (waitingAt 12).RecordsSound ∧ (waitingAt 12).CuesSound
    ∧ step { waitingAt 12 with pending := [.fill] } = .next (waitingAt 12) := by
  have filledRow : ∀ r : RowNumber, (waitingAt 12).cues[r].rowState ≠ .empty → r = 0 := by decide +kernel
  refine ⟨by decide +kernel, by decide +kernel, by decide +kernel, ?_, rfl⟩
  refine ⟨by decide +kernel, ⟨by decide +kernel, fun a b ha hb _ => ?_, by decide +kernel⟩, by decide +kernel,
    by decide +kernel⟩
  rw [filledRow a ha, filledRow b hb]

end Sys2Proof.Tests
end

/-!
The symbol code, the frame kinds of the nave link and the opening of a CHORD message (01, R3 to R5 and R15): the rules
of `Symbol.classify`, `valueSymbol`, `naveFrame` and `tagBase`, then O6, O7, O8 and O14.
-/

namespace Sys2Proof

-- One proof at a time: elaborated beside the text above, these proofs would pass the check's memory limit.
set_option Elab.async false

/-! ### The two tables of balanced patterns (R3, R4) -/

theorem controlSymbols_nodup : controlSymbols.Nodup := by decide

theorem ones_of_mem_controlSymbols {x : Symbol} (h : x ∈ controlSymbols) : x.ones = 4 := by
  have all : controlSymbols.all fun y => y.ones = 4 := by decide
  simpa using List.all_eq_true.mp all x h

theorem balanced_of_mem_valueSymbols {x : Symbol} (h : x ∈ valueSymbols) : x.ones = 4 ∧ x ∉ controlSymbols := by
  have all : valueSymbols.all fun y => y.ones = 4 ∧ y ∉ controlSymbols := by decide
  simpa using List.all_eq_true.mp all x h

theorem mem_valueSymbols_of_balanced {x : Symbol} : x.ones = 4 → x ∉ controlSymbols → x ∈ valueSymbols := by
  revert x
  decide

/-- The value patterns are exactly the balanced patterns that are no control symbol. -/
theorem mem_valueSymbols {x : Symbol} : x ∈ valueSymbols ↔ x.ones = 4 ∧ x ∉ controlSymbols :=
  ⟨balanced_of_mem_valueSymbols, fun h => mem_valueSymbols_of_balanced h.1 h.2⟩

theorem valueSymbols_length : valueSymbols.length = 64 := rfl

theorem valueSymbols_ascend : valueSymbols.Pairwise (· < ·) := by decide

theorem valueSymbols_nodup : valueSymbols.Nodup :=
  valueSymbols_ascend.imp fun h => BitVec.ne_of_lt h

theorem valueSymbol_eq_getElem (v : Value6) :
    valueSymbol v = valueSymbols[v.toNat]'(valueSymbols_length ▸ v.isLt) :=
  List.getD_eq_getElem _ _ _

theorem valueSymbol_mem (v : Value6) : valueSymbol v ∈ valueSymbols := by
  rw [valueSymbol_eq_getElem]
  exact List.getElem_mem _

theorem valueSymbol_lt_valueSymbol {v w : Value6} (h : v < w) : valueSymbol v < valueSymbol w := by
  rw [valueSymbol_eq_getElem, valueSymbol_eq_getElem]
  exact List.pairwise_iff_getElem.mp valueSymbols_ascend _ _ _ _ h

theorem idxOf_valueSymbol (v : Value6) : valueSymbols.idxOf (valueSymbol v) = v.toNat := by
  rw [valueSymbol_eq_getElem, valueSymbols_nodup.idxOf_getElem]

/-- The position of a value pattern, read as a value, gives the pattern back. -/
theorem valueSymbol_idxOf {x : Symbol} (h : x ∈ valueSymbols) :
    valueSymbol (BitVec.ofNat 6 (valueSymbols.idxOf x)) = x := by
  have hlt : valueSymbols.idxOf x < 64 := List.idxOf_lt_length_of_mem h
  simp [valueSymbol, Nat.mod_eq_of_lt hlt, h]

/-! ### The classes of symbols (R3) -/

theorem Symbol.ones_eq_countP (x : Symbol) : x.ones = (List.range 8).countP fun i => x.getLsbD i := by
  simp only [Symbol.ones, List.range_succ, List.range_zero, List.countP_append, List.countP_singleton,
    List.nil_append, Bool.toNat, cond_eq_ite]

theorem Symbol.classify_eq_control {x : Symbol} {k : Nat} :
    x.classify = .control k ↔ controlSymbols[k]? = some x := by
  unfold Symbol.classify
  constructor
  · intro h
    split at h
    · split at h
      · next hx =>
        injection h with h
        rw [← h, List.getElem?_idxOf hx]
      · cases h
    · split at h <;> cases h
  · intro h
    obtain ⟨hk, rfl⟩ := List.getElem?_eq_some_iff.mp h
    have hmem := List.getElem_mem hk
    rw [if_pos (ones_of_mem_controlSymbols hmem), if_pos hmem, controlSymbols_nodup.idxOf_getElem]

theorem Symbol.classify_of_mem_valueSymbols {x : Symbol} (h : x ∈ valueSymbols) :
    x.classify = .value (BitVec.ofNat 6 (valueSymbols.idxOf x)) := by
  obtain ⟨hones, hcontrol⟩ := mem_valueSymbols.mp h
  rw [Symbol.classify, if_pos hones, if_neg hcontrol]

theorem Symbol.classify_valueSymbol (v : Value6) : (valueSymbol v).classify = .value v := by
  rw [Symbol.classify_of_mem_valueSymbols (valueSymbol_mem v), idxOf_valueSymbol, BitVec.ofNat_toNat,
    BitVec.setWidth_eq]

theorem Symbol.classify_eq_value {x : Symbol} {v : Value6} : x.classify = .value v ↔ x = valueSymbol v := by
  constructor
  · intro h
    have hmem : x ∈ valueSymbols := by
      rw [mem_valueSymbols]
      unfold Symbol.classify at h
      split at h
      · next hones =>
        split at h
        · cases h
        · next hcontrol => exact ⟨hones, hcontrol⟩
      · split at h <;> cases h
    rw [Symbol.classify_of_mem_valueSymbols hmem] at h
    injection h with h
    rw [← h, valueSymbol_idxOf hmem]
  · rintro rfl
    exact Symbol.classify_valueSymbol v

theorem Symbol.classify_eq_flipped {x : Symbol} : x.classify = .flipped ↔ x.ones = 3 ∨ x.ones = 5 := by
  unfold Symbol.classify
  split
  · split <;> simp [*]
  · split <;> simp [*]

theorem Symbol.classify_eq_foreign {x : Symbol} : x.classify = .foreign ↔ x.ones < 3 ∨ 5 < x.ones := by
  unfold Symbol.classify
  split
  · split <;> simp [*]
  · split <;> simp only [reduceCtorEq, true_iff, false_iff] <;> omega

/-- The six control indices are all there are. -/
theorem Symbol.exists_classify_control {x : Symbol} :
    (∃ k : Fin 6, x.classify = .control k.val) ↔ x ∈ controlSymbols := by
  simp only [Symbol.classify_eq_control, List.mem_iff_getElem?]
  constructor
  · rintro ⟨k, h⟩
    exact ⟨k, h⟩
  · rintro ⟨k, h⟩
    obtain ⟨hk, -⟩ := List.getElem?_eq_some_iff.mp h
    exact ⟨⟨k, hk⟩, h⟩

theorem Symbol.exists_classify_value {x : Symbol} :
    (∃ v : Value6, x.classify = .value v) ↔ x.ones = 4 ∧ x ∉ controlSymbols := by
  rw [← mem_valueSymbols]
  constructor
  · rintro ⟨v, h⟩
    exact Symbol.classify_eq_value.mp h ▸ valueSymbol_mem v
  · exact fun h => ⟨_, Symbol.classify_of_mem_valueSymbols h⟩

@[simp] theorem SymbolClass.damaged_iff {c : SymbolClass} : c.damaged = true ↔ c = .flipped ∨ c = .foreign := by
  cases c <;> simp [SymbolClass.damaged]

/-- Counting over `m` rows of `n` numbers, row by row. -/
theorem countP_range_mul (m n : Nat) (p : Nat → Bool) : (List.range (m * n)).countP p
    = ((List.range m).map fun i => (List.range n).countP fun j => p (i * n + j)).sum := by
  induction m with
  | zero => simp
  | succ m ih =>
    rw [Nat.succ_mul, List.range_add, List.countP_append, ih, List.countP_map, List.range_succ]
    simp [Function.comp_def]

/-- The 256 patterns counted by their high and low four bits. -/
theorem countP_range_256 (p : Nat → Bool) : (List.range 256).countP p
    = ((List.range 16).map fun i => (List.range 16).countP fun j => p (i * 16 + j)).sum :=
  countP_range_mul 16 16 p

/-- Settles O6: each class is known by its ones and the table of control symbols, so that the counts are counts of
patterns by their ones. -/
theorem symbolClasses : Obligations.SymbolClasses := by
  unfold Obligations.SymbolClasses
  refine ⟨Symbol.ones_eq_countP, ?controls, fun _ h4 hk => Symbol.exists_classify_value.mpr ⟨h4, hk⟩,
    fun _ => Symbol.classify_eq_flipped.mpr, fun _ => Symbol.classify_eq_foreign.mpr,
    fun _ => SymbolClass.damaged_iff, ?_⟩
  case controls => decide
  simp only [Symbol.exists_classify_control, Symbol.exists_classify_value, Symbol.classify_eq_flipped,
    Symbol.classify_eq_foreign, countP_range_256]
  decide

/-! ### A data word on the line (R4) -/

theorem OutFrame.symbols_data (w : Data12) : (OutFrame.data w).symbols
    = (valueSymbol (BitVec.ofNat 6 (w.toNat / 64)), valueSymbol (BitVec.ofNat 6 (w.toNat % 64))) := by
  have high : w.extractLsb' 6 6 = BitVec.ofNat 6 (w.toNat / 64) := by
    apply BitVec.eq_of_toNat_eq
    simp [BitVec.extractLsb'_toNat, Nat.shiftRight_eq_div_pow]
  have low : w.extractLsb' 0 6 = BitVec.ofNat 6 (w.toNat % 64) := by
    apply BitVec.eq_of_toNat_eq
    simp [BitVec.extractLsb'_toNat]
  rw [OutFrame.symbols, high, low]

/-- Settles O7: the table of value patterns is sorted, and `classify` and `valueSymbol` are inverse on it. -/
theorem valueSymbolsAscend : Obligations.ValueSymbolsAscend := by
  unfold Obligations.ValueSymbolsAscend
  exact ⟨Symbol.classify_valueSymbol, fun _ _ => Symbol.classify_eq_value.mp,
    fun _ _ => valueSymbol_lt_valueSymbol, OutFrame.symbols_data, by decide⟩

/-! ### The frames of the nave link (R5) -/

/-- The combinations of two symbol classes that the table of R5 lists, row by row. -/
def FrameListed (first second : SymbolClass) : Prop :=
  (first = .control 0 ∧ second = .control 5)
  ∨ (first = .control 0 ∧ second.damaged = true)
  ∨ (first.damaged = true ∧ second = .control 5)
  ∨ (first = .control 1 ∧ ((∃ v, second = .value v) ∨ second.damaged = true))
  ∨ (first = .control 2 ∧ ((∃ v, second = .value v) ∨ second.damaged = true))
  ∨ (first = .control 3 ∧ ∃ v, second = .value v)
  ∨ (first = .control 4 ∧ second = .control 4)
  ∨ ((∃ v, first = .value v) ∧ ∃ v, second = .value v)

section Frames

variable {al : Alignment} {a b : Symbol} {u v : Value6}

/-- A combination the table does not list is a damaged frame. -/
theorem naveFrame_of_not_listed (h : ¬ FrameListed a.classify b.classify) : naveFrame al a b = .damagedFrame := by
  unfold naveFrame
  split <;> simp_all [FrameListed]

theorem naveFrame_sync (ha : a.classify = .control 0) (hb : b.classify = .control 5) :
    naveFrame al a b = .sync al := by
  simp only [naveFrame, ha, hb]

theorem naveFrame_corruptedSync_second (ha : a.classify = .control 0) (hb : b.classify.damaged = true) :
    naveFrame al a b = .corruptedSync := by
  obtain hb | hb := SymbolClass.damaged_iff.mp hb <;> simp only [naveFrame, ha, hb]

theorem naveFrame_corruptedSync_first (ha : a.classify.damaged = true) (hb : b.classify = .control 5) :
    naveFrame al a b = .corruptedSync := by
  obtain ha | ha := SymbolClass.damaged_iff.mp ha <;> simp only [naveFrame, ha, hb]

theorem naveFrame_onset (ha : a.classify = .control 1) (hb : b.classify = .value v) :
    naveFrame al a b = .onset v := by
  simp only [naveFrame, ha, hb]

theorem naveFrame_lostOnset (ha : a.classify = .control 1) (hb : b.classify.damaged = true) :
    naveFrame al a b = .lostOnset := by
  obtain hb | hb := SymbolClass.damaged_iff.mp hb <;> simp only [naveFrame, ha, hb]

theorem naveFrame_chordHeader (ha : a.classify = .control 2)
    (hb : b.classify = .value v ∨ b.classify.damaged = true) : naveFrame al a b = .chordHeader b := by
  rw [SymbolClass.damaged_iff] at hb
  obtain hb | hb | hb := hb <;> simp only [naveFrame, ha, hb]

theorem naveFrame_commandHeader (ha : a.classify = .control 3) (hb : b.classify = .value v) :
    naveFrame al a b = .commandHeader v := by
  simp only [naveFrame, ha, hb]

theorem naveFrame_fill (ha : a.classify = .control 4) (hb : b.classify = .control 4) :
    naveFrame al a b = .fill := by
  simp only [naveFrame, ha, hb]

theorem naveFrame_data (ha : a.classify = .value u) (hb : b.classify = .value v) :
    naveFrame al a b = .data (u ++ v) := by
  simp only [naveFrame, ha, hb]

end Frames

/-- Two values side by side: the first counts 64 times (R4). -/
theorem toNat_append_values (u v : Value6) : (u ++ v : Data12).toNat = u.toNat * 64 + v.toNat := by
  rw [BitVec.toNat_append, ← Nat.shiftLeft_add_eq_or_of_lt v.isLt, Nat.shiftLeft_eq]

end Sys2Proof

namespace Sys2Proof.Machine

-- As above.
set_option Elab.async false

theorem headerAddress_toNat (v : Value6) : (headerAddress v).toNat = v.toNat / 8 := by
  have := v.isLt
  simp only [headerAddress, BitVec.extractLsb'_toNat, Nat.shiftRight_eq_div_pow]
  omega

theorem headerCode_eq (v : Value6) : headerCode v = CommandCode.ofBits (BitVec.ofNat 3 (v.toNat % 8)) := by
  have : v.extractLsb' 0 3 = BitVec.ofNat 3 (v.toNat % 8) := by
    apply BitVec.eq_of_toNat_eq
    simp [BitVec.extractLsb'_toNat]
  rw [headerCode, this]

/-- Settles O8: the rows of the table one by one, and every other combination because the table does not list it. -/
theorem naveFrameKinds : Obligations.NaveFrameKinds := by
  unfold Obligations.NaveFrameKinds
  intro al a b u v
  refine ⟨naveFrame_sync, naveFrame_corruptedSync_second, naveFrame_corruptedSync_first, naveFrame_onset,
    naveFrame_lostOnset, naveFrame_chordHeader, naveFrame_commandHeader, ?damagedCommand, naveFrame_fill,
    fun ha hb => ⟨u ++ v, naveFrame_data ha hb, toNat_append_values u v⟩, ?controlFive, ?syncValue, ?syncControl,
    ?headControl, ?fillOther, ?valueOther, ?damagedOther, headerAddress_toNat v, headerCode_eq v⟩
  case damagedCommand =>
    intro ha hb
    obtain hb | hb := SymbolClass.damaged_iff.mp hb <;> exact naveFrame_of_not_listed (by simp [FrameListed, ha, hb])
  case controlFive => exact fun ha => naveFrame_of_not_listed (by simp [FrameListed, ha])
  case syncValue => exact fun ha hb => naveFrame_of_not_listed (by simp [FrameListed, ha, hb])
  case syncControl => exact fun k hk ha hb => naveFrame_of_not_listed (by simp [FrameListed, ha, hb, hk])
  case headControl =>
    intro k ha hb
    obtain ha | ha | ha := ha <;> exact naveFrame_of_not_listed (by simp [FrameListed, ha, hb])
  case fillOther => exact fun ha hb => naveFrame_of_not_listed (by simp [FrameListed, ha, hb])
  case valueOther => exact fun ha hb => naveFrame_of_not_listed (by simp [FrameListed, ha, hb])
  case damagedOther =>
    intro ha hb
    obtain ha | ha := SymbolClass.damaged_iff.mp ha <;> exact naveFrame_of_not_listed (by simp [FrameListed, ha, hb])

/-! ### The CHORD header (R15) -/

section TagBase

variable {x : Symbol} {v : Value6}

theorem tagBase_of_value_lt (hx : x.classify = .value v) (hv : v.toNat < 48) :
    tagBase x = some ⟨v.toNat, by omega⟩ := by
  simp only [tagBase, hx, dif_pos hv]

theorem tagBase_of_value_ge (hx : x.classify = .value v) (hv : 48 ≤ v.toNat) : tagBase x = some 49 := by
  simp only [tagBase, hx, dif_neg (Nat.not_lt.mpr hv)]

theorem tagBase_of_flipped (hx : x.classify = .flipped) : tagBase x = some 48 := by
  simp only [tagBase, hx]

theorem tagBase_of_foreign (hx : x.classify = .foreign) : tagBase x = some 49 := by
  simp only [tagBase, hx]

end TagBase

/-- On the lock alignment a CHORD header opens a waiting LOAD's stream first, then acts (R12, R17). -/
theorem exec_chordHeader_of_locked {s : State} (hs : s.Locked) (x : Symbol) :
    exec (.chordHeader x) s = .next (s.openLoad.takeChordHeader x) := by
  rw [exec, execChordHeader, State.decoded_of_locked hs]

theorem State.takeChordHeader_of_tagBase {x : Symbol} {base : Fin 50} (hx : tagBase x = some base) (s : State) :
    s.takeChordHeader x = s.takeHeader (.chord base) true := by
  simp only [State.takeChordHeader, hx]

/-- In READY no LOAD waits for its stream (R12, R17). -/
theorem State.openLoad_of_ready {s : State} (hs : s.assembly = .ready) : s.openLoad = s :=
  State.openLoad_of_none (by rw [hs]; rfl)

/-- In READY there is nothing for a header to end (R14, R19). -/
theorem State.endByHeader_of_ready {s : State} (hs : s.assembly = .ready) : s.endByHeader = s := by
  simp only [State.endByHeader, hs]

/-- A message that still expects DATA frames stands in the assembly (R13). -/
theorem State.assemble_of_lt {m : Message} (hm : m.payloads.length < m.header.expected) (s : State) :
    s.assemble m = { s with assembly := .assembling m } :=
  if_pos hm

/-- In READY a header that expects DATA frames opens its message and changes nothing else (R13). -/
theorem State.takeHeader_of_ready {s : State} (hs : s.assembly = .ready) {h : Header} (hh : 0 < h.expected)
    (acting : Bool) : s.takeHeader h acting = { s with assembly := .assembling ⟨h, acting, []⟩ } := by
  rw [State.takeHeader, State.endByHeader_of_ready hs]
  exact State.assemble_of_lt (m := ⟨h, acting, []⟩) hh s

/-- Settles O14: the tag base class by class, and in READY the header alone opens its message. -/
theorem chordHeaderTagBase : Obligations.ChordHeaderTagBase := by
  unfold Obligations.ChordHeaderTagBase
  refine ⟨fun _ _ => tagBase_of_value_lt, fun _ _ => tagBase_of_value_ge, fun _ => tagBase_of_flipped,
    fun _ => tagBase_of_foreign, ?_⟩
  intro x base s hlocked hready hx
  have expects : 0 < (Header.chord base).expected := by simp [Header.expected]
  rw [exec_chordHeader_of_locked hlocked, State.openLoad_of_ready hready, State.takeChordHeader_of_tagBase hx,
    State.takeHeader_of_ready hready expects]

end Sys2Proof.Machine

/-!
The refusal of a chord (02, R28 and R29): what the pattern and the gate mode of D2 say, what the Cue Placer does with a
chord that fails either check, and O21.
-/

namespace Sys2Proof.Machine

-- One proof at a time, for the memory limit of the check.
set_option Elab.async false

/-! ### The pattern and the gate mode of a chord (R21) -/

theorem chordPattern_eq (d2 : Data12) : chordPattern d2 = d2.toNat / 256 := by
  have := d2.isLt
  rw [chordPattern, field_toNat]
  omega

theorem chordGate_eq_none {d2 : Data12} : chordGate d2 = none ↔ d2.toNat / 64 % 4 = 3 := by
  have gateField : field d2 6 2 = d2.toNat / 64 % 4 := field_toNat d2 6 2
  have gateField_lt : d2.toNat / 64 % 4 < 4 := Nat.mod_lt _ (by decide)
  rw [chordGate, gateField]
  generalize d2.toNat / 64 % 4 = mode at gateField_lt
  interval_cases mode <;> simp

/-! ### The CHORD_MESSAGE event (R27) -/

section ChordMessage

variable {s : State} {base : Fin 50} {d1 d2 d3 d4 : Data12} {rest : List Handed}

theorem State.takeChordMessage_of_handed (hh : s.handed = .chord base d1 d2 d3 d4 :: rest) :
    s.takeChordMessage = { s with handed := rest }.placeChord base d1 d2 d3 d4 := by
  simp only [State.takeChordMessage, hh]

theorem exec_chordMessage_of_handed (hs : s.Running) (hh : s.handed = .chord base d1 d2 d3 d4 :: rest) :
    exec .chordMessage s = .next ({ s with handed := rest }.placeChord base d1 d2 d3 d4) := by
  rw [exec, execChordMessage, State.live_of_running hs, State.takeChordMessage_of_handed hh]

/-- The malformed check comes before every other and does not read the follower's mode (R28). -/
theorem State.placeChord_of_malformed (h : d2.toNat / 256 = 0 ∨ d2.toNat / 64 % 4 = 3) (s : State) :
    s.placeChord base d1 d2 d3 d4 = s.raise Counter.abortedOrMalformed := by
  rw [State.placeChord]
  cases hg : chordGate d2 with
  | none => rfl
  | some gate =>
    have gateNotThree : d2.toNat / 64 % 4 ≠ 3 := fun h3 => by simp [chordGate_eq_none.mpr h3] at hg
    have patternZero : chordPattern d2 = 0 := chordPattern_eq d2 ▸ h.resolve_right gateNotThree
    exact if_pos patternZero

/-- A chord that is not malformed meets the IDLE check next (R29). -/
theorem State.placeChord_of_idle (hp : d2.toNat / 256 ≠ 0) (hg : d2.toNat / 64 % 4 ≠ 3) (hm : s.follower.mode = .idle) :
    s.placeChord base d1 d2 d3 d4 = s.raise Counter.noHymn := by
  obtain ⟨gate, hgate⟩ := Option.ne_none_iff_exists'.mp (mt chordGate_eq_none.mp hg)
  have patternSet : chordPattern d2 ≠ 0 := chordPattern_eq d2 ▸ hp
  simp only [State.placeChord, hgate, if_neg patternSet, if_pos hm]

end ChordMessage

/-- Settles O21: the malformed check in every follower state, then the IDLE check. -/
theorem chordRefusedWhole : Obligations.ChordRefusedWhole := by
  unfold Obligations.ChordRefusedWhole
  intro s base d1 d2 d3 d4 rest hrunning hhanded
  rw [exec_chordMessage_of_handed hrunning hhanded]
  refine ⟨fun hmalformed => ?malformed, fun hpattern hgate hidle => ?idle⟩
  case malformed => exact congrArg _ (State.placeChord_of_malformed hmalformed _)
  case idle => exact congrArg _ (State.placeChord_of_idle hpattern hgate hidle)

end Sys2Proof.Machine

/-!
The matching of an onset and the period step (04, R66, R67 and R74): the candidates row by row, the choice as the least
of its list in distance and then position, and the period of a tempo correction case by case; then O35 and O37.
-/

namespace Sys2Proof.Machine

-- One proof at a time, for the memory limit of the check.
set_option Elab.async false

theorem mem_allRows (r : RowNumber) : r ∈ allRows := List.mem_finRange r

/-! ### Candidates (R66) -/

section Candidates

variable {s : State} {l : Loft} {t : Time} {r q : RowNumber}

theorem CueRow.awaits_iff (c : CueRow) (l : Loft) : c.awaits l = true ↔ c.syllable = true ∧ c.mark l = false := by
  simp [CueRow.awaits]

theorem State.inWindow_iff : s.inWindow t r = true ↔
    (s.cues[r].rowState = .pending ∨ s.cues[r].rowState = .releasing ∨ s.cues[r].rowState = .listen)
        ∧ (s.distance t r).natAbs ≤ s.follower.window
      ∨ s.cues[r].rowState = .gated ∧ -(s.follower.window : Int) ≤ s.distance t r ∧ s.rol.head? = some r := by
  unfold State.inWindow
  cases s.cues[r].rowState with
  | empty => simp
  | pending => simp
  | gated => simp
  | releasing => simp
  | listen => simp

theorem State.candidate_iff : s.candidate l t r = true ↔
    s.cues[r].awaits l = true ∧ s.inWindow t r = true ∧ r ∉ s.behindGate := by
  simp [State.candidate, and_assoc]

theorem State.rowState_ne_empty_of_candidate (h : s.candidate l t r = true) : s.cues[r].rowState ≠ .empty := by
  intro rowEmpty
  obtain ⟨-, inWindow, -⟩ := State.candidate_iff.mp h
  rw [State.inWindow_iff, rowEmpty] at inWindow
  simp at inWindow

/-! ### The nearest of a list (R67) -/

/-- What R67 compares: the distance of a row, then its position. -/
def State.nearness (s : State) (t : Time) (r : RowNumber) : ℕ ×ₗ ℕ :=
  toLex ((s.distance t r).natAbs, s.cues[r].position)

theorem State.nearness_lt_iff : s.nearness t r < s.nearness t q ↔
    (s.distance t r).natAbs < (s.distance t q).natAbs
      ∨ (s.distance t r).natAbs = (s.distance t q).natAbs ∧ s.cues[r].position < s.cues[q].position :=
  Prod.Lex.toLex_lt_toLex

theorem State.position_eq_of_nearness_eq (h : s.nearness t r = s.nearness t q) :
    s.cues[r].position = s.cues[q].position :=
  (Prod.ext_iff.mp (toLex.injective h)).2

/-- One comparison of the matcher is one step of the search for a least element. -/
theorem State.nearer_eq_argAux (s : State) (t : Time) :
    s.nearer t = List.argAux fun r b => s.nearness t r < s.nearness t b := by
  funext best r
  cases best with
  | none => rfl
  | some b => simp only [State.nearer, List.argAux, State.nearness_lt_iff]

theorem State.foldl_nearer (s : State) (t : Time) (rows : List RowNumber) :
    rows.foldl (s.nearer t) none = rows.argmin (s.nearness t) := by
  rw [State.nearer_eq_argAux, List.argmin]

theorem State.choose_eq_argmin (s : State) (l : Loft) (t : Time) :
    s.choose l t = (allRows.filter (s.candidate l t)).argmin (s.nearness t) :=
  s.foldl_nearer t _

/-- The candidates at or before position `f` (R76). -/
def State.frozenCandidates (s : State) (l : Loft) (t : Time) (f : Nat) : List RowNumber :=
  (allRows.filter (s.candidate l t)).filter fun r => decide (s.cues[r].position ≤ f)

theorem State.chooseFrozen_eq_argmin (s : State) (l : Loft) (t : Time) (f : Nat) :
    s.chooseFrozen l t f = (s.frozenCandidates l t f).argmin (s.nearness t) :=
  s.foldl_nearer t _

theorem State.mem_candidates : r ∈ allRows.filter (s.candidate l t) ↔ s.candidate l t r = true := by
  simp [mem_allRows]

theorem State.mem_frozenCandidates {f : Nat} :
    r ∈ s.frozenCandidates l t f ↔ s.candidate l t r = true ∧ s.cues[r].position ≤ f := by
  simp [State.frozenCandidates, mem_allRows, and_comm]

/-- Among candidates the least is strictly the nearest: rows that are not EMPTY hold different positions (R33, R67). -/
theorem State.nearness_lt_of_argmin {rows : List RowNumber} (hr : r ∈ rows.argmin (s.nearness t)) (hq : q ∈ rows)
    (sound : s.PositionsSound) (candidate_r : s.candidate l t r = true) (candidate_q : s.candidate l t q = true)
    (ne : q ≠ r) : s.nearness t r < s.nearness t q := by
  have le : s.nearness t r ≤ s.nearness t q := List.le_of_mem_argmin hq hr
  refine le.lt_of_ne fun nearness_eq => ne ?_
  obtain ⟨-, position_unique, -⟩ := sound
  exact position_unique q r (rowState_ne_empty_of_candidate candidate_q) (rowState_ne_empty_of_candidate candidate_r)
    (position_eq_of_nearness_eq nearness_eq).symm

end Candidates

/-- Settles O35: the candidates condition by condition, and both choices as the least of the candidates they range over. -/
theorem nearestCandidateChosen : Obligations.NearestCandidateChosen := by
  unfold Obligations.NearestCandidateChosen
  intro s l t
  refine ⟨fun r => ?candidates, ?noneChosen, fun r chosen => ?chosen, fun f => ⟨?noneFrozen, fun r chosen => ?frozen⟩⟩
  case candidates =>
    rw [State.candidate_iff, CueRow.awaits_iff, State.inWindow_iff, State.mem_behindGate, and_assoc]
  case noneChosen =>
    simp [State.choose_eq_argmin, List.argmin_eq_none, mem_allRows]
  case chosen =>
    rw [State.choose_eq_argmin] at chosen
    have candidate_r := State.mem_candidates.mp (List.argmin_mem chosen)
    refine ⟨candidate_r, fun sound q candidate_q ne => State.nearness_lt_iff.mp ?_⟩
    exact State.nearness_lt_of_argmin chosen (State.mem_candidates.mpr candidate_q) sound candidate_r candidate_q ne
  case noneFrozen =>
    simp [State.chooseFrozen_eq_argmin, List.argmin_eq_none, List.eq_nil_iff_forall_not_mem,
      State.mem_frozenCandidates]
  case frozen =>
    rw [State.chooseFrozen_eq_argmin] at chosen
    obtain ⟨candidate_r, position_le⟩ := State.mem_frozenCandidates.mp (List.argmin_mem chosen)
    refine ⟨candidate_r, position_le, fun sound q candidate_q before ne => State.nearness_lt_iff.mp ?_⟩
    exact State.nearness_lt_of_argmin chosen (State.mem_frozenCandidates.mpr ⟨candidate_q, before⟩) sound candidate_r
      candidate_q ne

/-! ### The period step (R74) -/

section PeriodStep

variable {f : Follower} {m u : Nat} {e : Int}

theorem Follower.correctedPeriod_of_not_follow (h : f.mode ≠ .follow) : f.correctedPeriod m e = f.period := by
  unfold Follower.correctedPeriod
  split
  next hm _ => exact absurd hm h
  next => rfl

theorem Follower.correctedPeriod_of_near (hu : f.prevUpdate = some u) (h : m < u + 2) :
    f.correctedPeriod m e = f.period := by
  unfold Follower.correctedPeriod
  split
  next hv =>
    obtain rfl := Option.some.inj (hu.symm.trans hv)
    exact if_neg (Nat.not_le.mpr h)
  next => rfl

theorem Follower.correctedPeriod_of_follow (hm : f.mode = .follow) (hu : f.prevUpdate = some u) (h : u + 2 ≤ m) :
    f.correctedPeriod m e = f.steppedPeriod e ((m : Int) - (u : Int)) := by
  simp only [Follower.correctedPeriod, hm, hu, if_pos h]

/-- The second part of R74: the step limited in magnitude. -/
theorem max_neg_min_eq {lim : Int} (raw : Int) (h : 0 ≤ lim) :
    max (-lim) (min raw lim) = if lim < raw then lim else if raw < -lim then -lim else raw := by
  split_ifs <;> omega

/-- The third part of R74: a sum that is not negative clamped to `a` and `b`. -/
theorem clamp_toNat {a b : Nat} {x : Int} (hab : a ≤ b) (hx : 0 ≤ x) :
    (clamp a b x.toNat : Int) = if x < a then (a : Int) else if (b : Int) < x then (b : Int) else x := by
  rw [clamp]
  split_ifs <;> omega

end PeriodStep

/-- Settles O37: the two cases without a step, and the step's limit, which never takes more than an eighth of the period
and so leaves a sum that is not negative to clamp. -/
theorem periodStep : Obligations.PeriodStep := by
  unfold Obligations.PeriodStep
  intro f m u e raw lim step
  refine ⟨Follower.correctedPeriod_of_not_follow,
    fun hu near => Follower.correctedPeriod_of_near hu (by omega), fun hm hu far hraw hlim hstep hbounds => ?stepped⟩
  have lim_nonneg : 0 ≤ lim := by omega
  have step_eq : max (-lim) (min raw lim) = step := hstep ▸ max_neg_min_eq raw lim_nonneg
  have sum_nonneg : 0 ≤ (f.period : Int) + step := by omega
  have limit_eq : ((f.period / 8 : Nat) : Int) = lim := by omega
  rw [Follower.correctedPeriod_of_follow hm hu (by omega), Follower.steppedPeriod, limit_eq, ← hraw, step_eq]
  exact clamp_toNat hbounds sum_nonneg

end Sys2Proof.Machine

/-!
The due row and its release without words (06, R105 to R109): what makes a row the due row of a division, what RELEASE
does with it, and O42.
-/

namespace Sys2Proof.Machine

-- One proof at a time, for the memory limit of the check.
set_option Elab.async false

section Release

variable {s : State} {d : Division} {r : RowNumber}

/-! ### The due row (R105, R106) -/

theorem Mode.playing_iff {m : Mode} : m.playing = true ↔ m = .lead ∨ m = .follow ∨ m = .freeze := by
  cases m <;> simp [Mode.playing]

theorem State.lead_eq (s : State) (d : Division) : s.lead d = s.tables.division[d].w0.toNat % 2048 := by
  simp only [State.lead, DivisionRow.lead, field_toNat, Nat.reducePow, Nat.div_one]

theorem Follower.reached_neg_iff {f : Follower} {q lead : Nat} :
    f.reached q (-(lead : Int)) = true ↔ f.offset q - lead ≤ f.age :=
  decide_eq_true_iff

/-- The four conditions of R106, which the scheduler judges on the earliest row lacking the mark alone. -/
theorem State.dueRow_eq_some_iff : s.dueRow d = some r ↔
    s.follower.mode.playing = true ∧ s.follower.defines s.cues[r].position = true
      ∧ s.earliestUnreleased d = some r
      ∧ s.cues[r].rowState ≠ .gated
      ∧ s.follower.reached s.cues[r].position (-(s.lead d : Int)) = true := by
  unfold State.dueRow
  cases s.earliestUnreleased d with
  | none => simp
  | some x =>
    obtain rfl | other := eq_or_ne x r
    · simp [and_assoc]
    · simp [other]

/-! ### RELEASE by port state (R107 to R109) -/

/-- A division that holds no release takes its due row (R107). -/
theorem exec_release_of_due (hs : s.Running) (hh : s.held[d] = none) (hd : s.dueRow d = some r) :
    exec (.release d) s = .next (s.releaseTo d r) := by
  have released : s.releaseRow d = some r := by simp only [State.releaseRow, hh, Option.isNone_none, if_true, hd]
  rw [exec, execRelease, State.live_of_running hs]
  simp only [State.takeRelease, released]

/-- Against a STALLED port the mark is set, the record stored and the dropped keys counted; nothing else changes (R109). -/
theorem State.releaseUnheard_eq (s : State) (d : Division) (r : RowNumber) :
    s.releaseUnheard d r = { s.markReleased d r with
      divisions := s.divisions.set d (s.computeCue d r).record
      counters := (s.raiseBy Counter.keysOrCodes (s.computeCue d r).dropped).counters } :=
  rfl

end Release

/-- Settles O42: RELEASE takes the due row by the state of its port, and the due row condition by condition. -/
theorem releaseWithoutWords : Obligations.ReleaseWithoutWords := by
  unfold Obligations.ReleaseWithoutWords
  refine ⟨fun s d r hrunning hheld hdue => ⟨fun hoff => ?off, fun hstalled => ?stalled⟩, fun s d r => ?due⟩
  case off => rw [exec_release_of_due hrunning hheld hdue, State.releaseTo_off r hoff]
  case stalled =>
    rw [exec_release_of_due hrunning hheld hdue, State.releaseTo_stalled r hstalled, State.releaseUnheard_eq]
  case due =>
    rw [State.dueRow_eq_some_iff, Mode.playing_iff, Follower.reached_neg_iff, State.lead_eq, State.earliestUnreleased]

end Sys2Proof.Machine

/-!
The Registration Mapper's run and Voice Register (07, R126 to R136): the outcome of R132 for each code, how many keys
sound after an application, the key events as two ascending lists of keys, and O45.
-/

namespace Sys2Proof.Machine

-- One proof at a time, for the memory limit of the check.
set_option Elab.async false

/-! ### The Voice Register, line by line of the table (R132) -/

section VoiceRegister

variable {row : RegistrationRow} {v : Voice} {code : Value6}

/-- Only a tie holds a voice. -/
theorem voiceHeld_of_not_tie (h : code ≠ 1) (old : Option Value6) : voiceHeld row v code old = false := by
  rw [voiceHeld, decide_eq_false h, Bool.and_false, Bool.false_and]

theorem newEntry_of_outside_mask (h : row.plays v = false) (old : Option Value6) : newEntry row v code old = none := by
  simp [newEntry, h]

theorem voiceHeld_of_outside_mask (h : row.plays v = false) (old : Option Value6) :
    voiceHeld row v code old = false := by
  simp [voiceHeld, h]

theorem newEntry_of_rest_or_invalid (h : code = 0 ∨ code = 63) (old : Option Value6) :
    newEntry row v code old = none := by
  rw [newEntry, if_pos h, ite_self]

theorem newEntry_of_tie (h : row.plays v = true) (old : Option Value6) : newEntry row v 1 old = old := by
  simp [newEntry, h]

theorem voiceHeld_of_tie (h : row.plays v = true) (old : Option Value6) : voiceHeld row v 1 old = old.isSome := by
  simp [voiceHeld, h]

theorem newEntry_of_pitch (h : row.plays v = true) (low : 2 ≤ code.toNat) (high : code.toNat ≤ 62)
    (old : Option Value6) : newEntry row v code old = some code := by
  have notSilent : ¬(code = 0 ∨ code = 63) := by bv_omega
  have notTie : code ≠ 1 := by bv_omega
  rw [newEntry, if_neg (by simp [h]), if_neg notSilent, if_neg notTie]

end VoiceRegister

/-! ### At most twelve keys sound after an application (R127, R129, R133) -/

theorem mem_keptHolders {low high : Nat} {hs : List (Holder × Int)} {k : Fin 73} {h : Holder} :
    h ∈ keptHolders low high hs k ↔ (h, (k.val : Int)) ∈ hs ∧ inCompass low high k.val = true := by
  simp only [keptHolders, List.mem_map, List.mem_filter, Bool.and_eq_true, decide_eq_true_eq, Prod.exists,
    exists_and_right, exists_eq_right]
  constructor
  · rintro ⟨x, holder, compass, rfl⟩
    exact ⟨holder, compass⟩
  · rintro ⟨holder, compass⟩
    exact ⟨k.val, holder, compass, rfl⟩

theorem DivisionRecord.mem_soundingKeys {r : DivisionRecord} {k : Fin 73} :
    k ∈ r.soundingKeys ↔ r.keyMap[k] ≠ [] := by
  simp [DivisionRecord.soundingKeys]

theorem DivisionRecord.soundingKeys_nodup (r : DivisionRecord) : r.soundingKeys.Nodup :=
  (List.nodup_finRange 73).filter _

/-- The number of a key, on the signed scale of the holders' keys (R127). -/
def keyNumber (k : Fin 73) : Int := k.val

theorem keyNumber_injective : Function.Injective keyNumber :=
  Nat.cast_injective.comp Fin.val_injective

/-- A new Key Map lets no more keys sound than it was given holders. -/
theorem soundingKeys_newKeyMap_length_le {r : DivisionRecord} {low high : Nat} {hs : List (Holder × Int)}
    (built : r.keyMap = newKeyMap low high hs) : r.soundingKeys.length ≤ hs.length := by
  have distinct : (r.soundingKeys.map keyNumber).Nodup := r.soundingKeys_nodup.map keyNumber_injective
  have held : r.soundingKeys.map keyNumber ⊆ hs.map Prod.snd := by
    intro x hx
    obtain ⟨k, sounding, rfl⟩ := List.mem_map.mp hx
    have holders : keptHolders low high hs k ≠ [] := by
      simpa [built, newKeyMap] using DivisionRecord.mem_soundingKeys.mp sounding
    obtain ⟨h, kept⟩ := List.exists_mem_of_ne_nil _ holders
    exact List.mem_map_of_mem (mem_keptHolders.mp kept).1
  simpa using (List.subperm_of_subset distinct held).length_le

section KeyMap

variable (row : RegistrationRow) (low high : Nat) (tr : Int) (set : BitVec 4) (codes : Voices Value6)
  (old : DivisionRecord)

theorem applySteps_keyMap : (applySteps row low high tr set codes old).record.keyMap
    = newKeyMap low high (derivedHolders row tr (newRegister row codes old.register)) :=
  rfl

/-- Four voices in three octaves: whatever sounded before, an application leaves at most twelve keys sounding. -/
theorem soundingKeys_applySteps_length_le :
    (applySteps row low high tr set codes old).record.soundingKeys.length ≤ 12 :=
  (soundingKeys_newKeyMap_length_le (applySteps_keyMap ..)).trans (derivedHolders_length row tr _)

end KeyMap

/-! ### The key events of a run (R134, R135) -/

section KeyEvents

variable (held : Voice → Bool) (before after : Vector (List Holder) 73)

/-- The keys with a key-off, ascending. -/
def offKeys : List (Fin 73) := (List.finRange 73).filter fun k => keyOff held before[k] after[k]

/-- The keys with a key-on, ascending. -/
def onKeys : List (Fin 73) := (List.finRange 73).filter fun k => keyOn held before[k] after[k]

theorem keyEvents_eq : keyEvents held before after
    = (offKeys held before after).map (KeyEvent.mk false) ++ (onKeys held before after).map (KeyEvent.mk true) :=
  rfl

theorem offKeys_ascend : (offKeys held before after).Pairwise (· < ·) :=
  (List.pairwise_lt_finRange 73).filter _

theorem onKeys_ascend : (onKeys held before after).Pairwise (· < ·) :=
  (List.pairwise_lt_finRange 73).filter _

theorem keyEvents_filter_off : (keyEvents held before after).filter (fun e => !e.on)
    = (offKeys held before after).map (KeyEvent.mk false) := by
  simp [keyEvents_eq, List.filter_map, Function.comp_def]

theorem keyEvents_filter_on : (keyEvents held before after).filter (fun e => e.on)
    = (onKeys held before after).map (KeyEvent.mk true) := by
  simp [keyEvents_eq, List.filter_map, Function.comp_def]

/-- Among the key-offs, and among the key-ons, keys ascend. -/
theorem keyEvents_keys_ascend : (keyEvents held before after).Pairwise fun a b => a.on = b.on → a.key < b.key := by
  rw [keyEvents_eq, List.pairwise_append]
  refine ⟨?offs, ?ons, ?across⟩
  case offs => simpa [List.pairwise_map] using offKeys_ascend held before after
  case ons => simpa [List.pairwise_map] using onKeys_ascend held before after
  case across => simp

/-- After a key-on comes no key-off. -/
theorem keyEvents_offs_first : (keyEvents held before after).Pairwise fun a b => a.on = true → b.on = true := by
  rw [keyEvents_eq, List.pairwise_append]
  refine ⟨?offs, ?ons, ?across⟩
  case offs => simp [List.pairwise_map, List.pairwise_of_forall]
  case ons => simp [List.pairwise_map, List.pairwise_of_forall]
  case across => simp

end KeyEvents

section Sounding

variable {held : Voice → Bool} {old new : DivisionRecord}

/-- A key-off falls on a key that sounded before. -/
theorem offKeys_subset_soundingKeys : offKeys held old.keyMap new.keyMap ⊆ old.soundingKeys := by
  intro k hk
  have off : keyOff held old.keyMap[k] new.keyMap[k] = true := (List.mem_filter.mp hk).2
  rw [DivisionRecord.mem_soundingKeys]
  simp only [keyOff, Bool.and_eq_true, Bool.not_eq_true', List.isEmpty_eq_false_iff] at off
  exact off.1

/-- A key-on falls on a key that sounds after. -/
theorem onKeys_subset_soundingKeys : onKeys held old.keyMap new.keyMap ⊆ new.soundingKeys := by
  intro k hk
  have on : keyOn held old.keyMap[k] new.keyMap[k] = true := (List.mem_filter.mp hk).2
  rw [DivisionRecord.mem_soundingKeys]
  simp only [keyOn, Bool.and_eq_true, Bool.not_eq_true', List.isEmpty_eq_false_iff] at on
  exact on.1

theorem offKeys_length_le : (offKeys held old.keyMap new.keyMap).length ≤ old.soundingKeys.length :=
  (List.subperm_of_subset ((List.nodup_finRange 73).filter _) offKeys_subset_soundingKeys).length_le

theorem onKeys_length_le : (onKeys held old.keyMap new.keyMap).length ≤ new.soundingKeys.length :=
  (List.subperm_of_subset ((List.nodup_finRange 73).filter _) onKeys_subset_soundingKeys).length_le

/-- What sounded before closes, what sounds after opens. -/
theorem keyEvents_sounding {e : KeyEvent} (he : e ∈ keyEvents held old.keyMap new.keyMap) :
    if e.on then e.key ∈ new.soundingKeys else e.key ∈ old.soundingKeys := by
  rw [keyEvents_eq, List.mem_append, List.mem_map, List.mem_map] at he
  obtain ⟨k, off, rfl⟩ | ⟨k, on, rfl⟩ := he
  · exact offKeys_subset_soundingKeys off
  · exact onKeys_subset_soundingKeys on

theorem keyEvents_length : (keyEvents held old.keyMap new.keyMap).length
    = (offKeys held old.keyMap new.keyMap).length + (onKeys held old.keyMap new.keyMap).length := by
  simp [keyEvents_eq]

/-- Twelve keys before and twelve after make at most 24 key events, eight KEYS words (R136). -/
theorem packEvents_keyEvents_length_le (before : old.soundingKeys.length ≤ 12) (after : new.soundingKeys.length ≤ 12) :
    (packEvents (keyEvents held old.keyMap new.keyMap)).length ≤ 8 := by
  have offs : (offKeys held old.keyMap new.keyMap).length ≤ 12 := offKeys_length_le.trans before
  have ons : (onKeys held old.keyMap new.keyMap).length ≤ 12 := onKeys_length_le.trans after
  rw [packEvents_length, keyEvents_length]
  omega

end Sounding

/-! ### The run of an application (R135, R136) -/

section Run

variable (row : RegistrationRow) (low high : Nat) (tr : Int) (set : BitVec 4) (codes : Voices Value6)
  (old : DivisionRecord)

/-- The key events of an application. -/
def applicationEvents : List KeyEvent :=
  keyEvents (fun v => voiceHeld row v (codes.get v) (old.register.get v)) old.keyMap
    (applySteps row low high tr set codes old).record.keyMap

theorem applySteps_run : (applySteps row low high tr set codes old).run
    = (if old.currentSet = some set then [] else stopWords row)
      ++ packEvents (applicationEvents row low high tr set codes old) :=
  rfl

theorem stopWords_length_le : (if old.currentSet = some set then [] else stopWords row).length ≤ 2 := by
  split <;> simp [stopWords]

/-- Two stop words and eight KEYS words. -/
theorem applySteps_run_length_le (sounding : old.soundingKeys.length ≤ 12) :
    (applySteps row low high tr set codes old).run.length ≤ 10 := by
  have stops := stopWords_length_le row set old
  have keys : (packEvents (applicationEvents row low high tr set codes old)).length ≤ 8 :=
    packEvents_keyEvents_length_le sounding (soundingKeys_applySteps_length_le row low high tr set codes old)
  rw [applySteps_run, List.length_append]
  omega

end Run

/-- Settles O45: the key events of an application are its keys off and its keys on, each among at most twelve sounding
keys; the Voice Register line by line; the packing by its equations. -/
theorem runAtMostTenWords : Obligations.RunAtMostTenWords := by
  unfold Obligations.RunAtMostTenWords
  refine ⟨fun row low high tr set codes old sound => ?run, fun row v code old => ⟨fun outside => ?outside, fun plays =>
    ⟨fun silent => ?silent, fun tie => ?tie, fun low high => ?pitch⟩⟩, fun a b c rest => ⟨rfl, rfl, rfl, rfl⟩⟩
  case run =>
    have before : old.soundingKeys.length ≤ 12 := sound.1
    have after := soundingKeys_applySteps_length_le row low high tr set codes old
    refine ⟨applicationEvents row low high tr set codes old, applySteps_run .., ?offs, ?ons,
      keyEvents_keys_ascend .., keyEvents_offs_first .., packEvents_length _, fun e he => keyEvents_sounding he,
      applySteps_run_length_le row low high tr set codes old before⟩
    case offs =>
      rw [applicationEvents, keyEvents_filter_off, List.length_map]
      exact offKeys_length_le.trans before
    case ons =>
      rw [applicationEvents, keyEvents_filter_on, List.length_map]
      exact onKeys_length_le.trans after
  case outside => exact ⟨newEntry_of_outside_mask outside old, voiceHeld_of_outside_mask outside old⟩
  case silent =>
    have notTie : code ≠ 1 := by rintro rfl; simp at silent
    exact ⟨newEntry_of_rest_or_invalid silent old, voiceHeld_of_not_tie notTie old⟩
  case tie =>
    subst tie
    exact ⟨newEntry_of_tie plays old, voiceHeld_of_tie plays old⟩
  case pitch =>
    have notTie : code ≠ 1 := by bv_omega
    exact ⟨newEntry_of_pitch plays low high old, voiceHeld_of_not_tie notTie old⟩

end Sys2Proof.Machine

/-!
The validity of a division row (09, R162): its fields as arithmetic of the three words, the compass word that gives a
wished compass, what the Table Store does with a row it is handed (R159), and O18.
-/

namespace Sys2Proof.Machine

-- One proof at a time, for the memory limit of the check.
set_option Elab.async false

/-! ### The fields of a division row (R162) -/

namespace DivisionRow

theorem lead_eq_mod (r : DivisionRow) : r.lead = r.w0.toNat % 2048 := by
  simp only [lead, field_toNat, Nat.reducePow, Nat.div_one]

theorem compassLow_eq_div (r : DivisionRow) : r.compassLow = r.w1.toNat / 64 := by
  have fits : r.w1.toNat / 64 < 64 := by
    have := r.w1.isLt
    omega
  simp only [compassLow, field_toNat, Nat.reducePow, Nat.mod_eq_of_lt fits]

theorem compassHigh_eq_sub_mod (r : DivisionRow) : r.compassHigh = 72 - r.w1.toNat % 64 := by
  simp only [compassHigh, field_toNat, Nat.reducePow, Nat.div_one]

theorem compassHigh_le (r : DivisionRow) : r.compassHigh ≤ 72 :=
  Nat.sub_le ..

/-- The three checks of R162. -/
theorem valid_iff {r : DivisionRow} :
    r.valid = true ↔ r.lead ≤ 2000 ∧ r.compassLow ≤ r.compassHigh ∧ 40 ≤ r.stallLimit ∧ r.stallLimit ≤ 4000 := by
  simp only [valid, Bool.and_eq_true, decide_eq_true_eq, and_assoc]

end DivisionRow

/-! ### The word of a compass (R162) -/

/-- The second word of a division row with the compass `low..high`: the low key over the top distance. -/
def compassWord (low high : Nat) : Data12 := BitVec.ofNat 12 (low * 64 + (72 - high))

section Compass

variable {low high : Nat} (hlow : low ≤ 63) (hhigh : 9 ≤ high)

include hlow hhigh

theorem compassWord_toNat : (compassWord low high).toNat = low * 64 + (72 - high) := by
  rw [compassWord, BitVec.toNat_ofNat]
  exact Nat.mod_eq_of_lt (by omega)

theorem compassLow_compassWord (w0 w2 : Data12) : (⟨w0, compassWord low high, w2⟩ : DivisionRow).compassLow = low := by
  rw [DivisionRow.compassLow_eq_div, compassWord_toNat hlow hhigh]
  omega

theorem compassHigh_compassWord (top : high ≤ 72) (w0 w2 : Data12) :
    (⟨w0, compassWord low high, w2⟩ : DivisionRow).compassHigh = high := by
  rw [DivisionRow.compassHigh_eq_sub_mod, compassWord_toNat hlow hhigh]
  omega

end Compass

/-! ### A division row handed to the Table Store (R159) -/

/-- The Table Store checks the row before it writes anything. -/
theorem State.storeRow_division (s : State) (d : Division) (w0 w1 w2 : Data12) :
    s.storeRow 2 d.val [w0, w1, w2]
      = if (⟨w0, w1, w2⟩ : DivisionRow).valid then s.writeDivision d ⟨w0, w1, w2⟩ else s.refuseRow :=
  dif_pos d.isLt

theorem State.storeRow_division_of_invalid {w0 w1 w2 : Data12} (invalid : (⟨w0, w1, w2⟩ : DivisionRow).valid = false)
    (s : State) (d : Division) : s.storeRow 2 d.val [w0, w1, w2] = s.raise Counter.loadRefusals := by
  rw [State.storeRow_division, invalid]
  rfl

/-- Settles O18: the checks of R162 as arithmetic of the words; every compass has its word; an invalid row is refused. -/
theorem divisionRowValidity : Obligations.DivisionRowValidity := by
  unfold Obligations.DivisionRowValidity
  refine ⟨fun r => ?valid, fun r hvalid => ?compass,
    fun low high hlow hhigh top ordered w0 w2 hlead least most => ?written,
    fun s d _ _ _ invalid => State.storeRow_division_of_invalid invalid s d⟩
  case valid =>
    rw [DivisionRow.valid_iff, r.lead_eq_mod, r.compassLow_eq_div, r.compassHigh_eq_sub_mod, DivisionRow.stallLimit]
  case compass =>
    obtain ⟨-, ordered, -⟩ := DivisionRow.valid_iff.mp hvalid
    exact ⟨ordered, r.compassHigh_le⟩
  case written =>
    have givesLow := compassLow_compassWord hlow hhigh w0 w2
    have givesHigh := compassHigh_compassWord hlow hhigh top w0 w2
    refine ⟨compassWord low high, DivisionRow.valid_iff.mpr ⟨?lead, ?ordered, least, most⟩, givesLow, givesHigh⟩
    case lead => rwa [DivisionRow.lead_eq_mod]
    case ordered => rwa [givesLow, givesHigh]

end Sys2Proof.Machine

/-!
What a step can do to the part of the state that the invariants read (95): `State.music`, the acts that change it, and
the passage through every event once. Each invariant is then one `Kept`, act by act.
-/

namespace Sys2Proof.Machine

-- One proof at a time, for the memory limit of the check.
set_option Elab.async false

/-! ### The part of the state that the invariants read -/

/-- The Cue Table with its list, the follower, the releases, the ports and the tables, with reset, time and the queue. -/
structure Music where
  cues : Vector CueRow 200
  rol : List RowNumber
  highMark : Int
  follower : Follower
  held : Vector (Option RowNumber) 4
  divisions : Vector DivisionRecord 4
  ports : Vector Port 4
  tables : Tables
  resetHeld : Bool
  deviceTime : Time
  pending : List Instr

def State.music (s : State) : Music where
  cues := s.cues
  rol := s.rol
  highMark := s.highMark
  follower := s.follower
  held := s.held
  divisions := s.divisions
  ports := s.ports
  tables := s.tables
  resetHeld := s.resetHeld
  deviceTime := s.deviceTime
  pending := s.pending

/-! ### The acts -/

/-- A row in another guise: its state, position and release marks as they were, and an arm time only while GATED. -/
structure CueRow.SameStanding (c old : CueRow) : Prop where
  rowState : c.rowState = old.rowState
  position : c.position = old.position
  released : c.released = old.released
  armed : c.armed.isSome = true → old.armed.isSome = true ∨ old.rowState = .gated

/-- A port with its division's held release and record replaced. -/
def State.setChest (s : State) (d : Division) (p : Port) (h : Option RowNumber) (x : DivisionRecord) : State :=
  { s with ports := s.ports.set d p, held := s.held.set d h, divisions := s.divisions.set d x }

/-- A release of row `r` to division `d`, with or without words: its port and record replaced, the row marked, and
nothing held any more. -/
def State.released (s : State) (d : Division) (r : RowNumber) (p : Port) (x : DivisionRecord) : State :=
  (s.setChest d p none x).markReleased d r

/-- What the own events of the device can do to the musical part of the state, and that `P` survives it. -/
structure KeptByOwn (P : State → Prop) : Prop where
  /-- The rest of the state does not matter. -/
  frame : ∀ {s t : State}, P s → t.music = s.music → P t
  /-- The follower's record gives way to one as sound, IDLE only if it was IDLE. -/
  follower : ∀ {s : State} {f : Follower}, P s → (s.ClockSound → f.Sound) →
    (f.mode = .idle → s.follower.mode = .idle) → P (s.setFollower f)
  /-- A mark of a loft, or an arm time (R68, R83). -/
  row : ∀ {s : State} {r : RowNumber} {c : CueRow}, P s → c.SameStanding s.cues[r] → P (s.setRow r c)
  /-- A GATED row opens (R82). -/
  opened : ∀ {s : State} {r : RowNumber}, P s → s.cues[r].rowState = .gated → P (s.setRow r s.cues[r].opened)
  /-- A GATED row is dropped (R90). -/
  dropped : ∀ {s : State} {r : RowNumber}, P s → s.cues[r].rowState = .gated →
    P { s.setRow r s.cues[r].emptied with rol := s.rol.erase r }
  /-- A LISTEN row becomes EMPTY (R39). -/
  expired : ∀ {s : State} {r : RowNumber}, P s → s.cues[r].rowState = .listen → P (s.setRow r s.cues[r].emptied)
  /-- A freeze takes arm times away (R95). -/
  disarmed : ∀ {s : State} (q : Nat), P s → P { s with cues := s.cues.map fun c => c.disarmAfter q }
  /-- A hymn begins (R51). -/
  hymn : ∀ {s : State} {f : Follower}, P s → (s.ClockSound → f.Sound) → s.follower.mode = .idle →
    P { s with follower := f, highMark := -1 }
  /-- STOP ends the hymn, its held releases withdrawn already (R41, R61). -/
  stopped : ∀ {s : State}, P s → (∀ d : Division, s.held[d] = none) → P (s.setFollower s.follower.stop).emptyTable
  /-- A cue is filled (R30). -/
  filled : ∀ {s : State} {r : RowNumber} (q : Nat) (codes : Voices Value6) (set : BitVec 4) (syllable fermata : Bool)
    (gate : GateMode), P s → s.highMark < (q : Int) → s.cues[r].rowState = .empty → s.follower.mode ≠ .idle →
    P (s.fillRow r (placedRow q codes set syllable fermata gate))
  /-- A port changes, and its division is silenced or loses its held release. -/
  chest : ∀ {s : State} {d : Division} {p : Port} {h : Option RowNumber} {x : DivisionRecord}, P s →
    (s.ports[d].Sound s.held[d] → p.Sound h) → (h = s.held[d] ∨ h = none) →
    (x = s.divisions[d] ∨ x = DivisionRecord.silent) → P (s.setChest d p h x)
  /-- A due or held row is released to a division (R108 to R112). -/
  released : ∀ {s : State} {d : Division} {r : RowNumber} {p : Port} {x : DivisionRecord}, P s →
    (s.releaseRow d = some r ∨ s.held[d] = some r) → (s.ports[d].Sound s.held[d] → p.Sound none) →
    (x = s.divisions[d] ∨ x = (s.computeCue d r).record) → P (s.released d r p x)
  /-- A due row is held (R111). -/
  hold : ∀ {s : State} {d : Division} {r : RowNumber}, P s → s.releaseRow d = some r → s.ports[d].state = .active →
    P (s.hold d r)

/-- What every command can do: beside the device's own acts, the end of a frame time, the storing of a row, and reset. -/
structure Kept (P : State → Prop) : Prop extends KeptByOwn P where
  /-- A table is replaced by one as valid. -/
  tables : ∀ {s : State} {u : Tables}, P s → (s.tables.Valid → u.Valid) → P { s with tables := u }
  advance : ∀ {s : State}, P s → P s.advance
  heldSlot : ∀ {s : State}, P s → P s.heldSlot
  powerReset : ∀ {s : State}, P s → P s.powerReset
  resetEnds : ∀ {s : State} (straps : BitVec 3), P s → P { s with resetHeld := false, partAddress := straps }

/-! ### Ports (R104, R142 to R157) -/

namespace Port

variable {p : Port} {h : Option RowNumber}

theorem noteChange_sound (sound : p.Sound h) : p.noteChange.Sound h := by
  unfold noteChange
  split <;> exact sound

theorem beginWord_sound (sound : p.Sound h) : p.beginWord.Sound h := by
  obtain ⟨hcredits, hqueue, howed, hheld, hsince, hdead⟩ := sound
  unfold beginWord
  cases hq : p.queue with
  | nil => exact ⟨hcredits, hqueue, howed, hheld, hsince, hdead⟩
  | cons w rest =>
    have words : p.queue ≠ [] := by simp [hq]
    refine noteChange_sound ⟨by simp only; omega, ?_, howed, hheld, hsince, fun dead => absurd (hdead dead).1 words⟩
    simp only [hq, List.length_cons] at hqueue ⊢
    omega

theorem fillSlot_sound (slot : Nat) (sound : p.Sound h) : (p.fillSlot slot).Sound h := by
  unfold fillSlot chooseFrame
  split
  · split
    · exact sound
    · split
      · exact sound
      · split
        · exact beginWord_sound sound
        · exact sound
  · exact sound

theorem allOffReady_iff : p.allOffReady = true ↔
    p.owedAllOff = true ∧ (p.state = .active ∨ p.state = .waiting) ∧ p.queue.length < 12 := by
  simp [allOffReady, freeSlots, Config.queueCapacity, and_assoc]

theorem enterAllOff_sound (ready : p.allOffReady = true) (sound : p.Sound h) : p.enterAllOff.Sound h := by
  obtain ⟨hcredits, hqueue, howed, hheld, hsince, hdead⟩ := sound
  obtain ⟨-, hstate, hroom⟩ := allOffReady_iff.mp ready
  refine noteChange_sound ⟨hcredits, ?_, by simp, hheld, hsince, fun dead => ?_⟩
  · simpa using hroom
  · rcases hstate with hs | hs <;> simp [hs] at dead

theorem oweAllOff_sound (sound : p.Sound h) : p.oweAllOff.Sound h := by
  obtain ⟨hcredits, hqueue, howed, hheld, hsince, hdead⟩ := sound
  unfold oweAllOff
  split
  · exact ⟨hcredits, hqueue, howed, hheld, hsince, hdead⟩
  · next on => exact ⟨hcredits, hqueue, fun _ => on, hheld, hsince, hdead⟩

theorem endWait_sound (sound : p.Sound h) : p.endWait.Sound none := by
  obtain ⟨hcredits, hqueue, howed, hheld, hsince, hdead⟩ := sound
  unfold endWait
  split
  · exact ⟨hcredits, hqueue, by simp, by simp, by simp, by simp⟩
  · next on => exact ⟨hcredits, hqueue, howed, by simp [on], hsince, hdead⟩

theorem flushed_sound (p : Port) : p.flushed.Sound none := by
  refine ⟨?_, ?_, ?_, ?_, ?_, ?_⟩ <;> simp [flushed]

theorem disabled_sound (p : Port) : p.disabled.Sound none := by
  refine ⟨?_, ?_, ?_, ?_, ?_, ?_⟩ <;> simp [disabled]

theorem enabled_sound (p : Port) : p.enabled.Sound none := by
  refine ⟨?_, ?_, ?_, ?_, ?_, ?_⟩ <;> simp [enabled]

theorem stalled_sound (p : Port) : p.stalled.Sound none := by
  refine ⟨?_, ?_, ?_, ?_, ?_, ?_⟩ <;> simp [stalled]

theorem enqueue_sound {run : List ValveWord} (fits : p.fits run = true)
    (on : p.state = .active ∨ p.state = .waiting) (sound : p.Sound h) : (p.enqueue run).Sound h := by
  obtain ⟨hcredits, hqueue, howed, hheld, hsince, hdead⟩ := sound
  obtain ⟨-, room⟩ := fits_room fits
  refine ⟨hcredits, ?_, howed, hheld, hsince, fun dead => ?_⟩
  · simp only [enqueue, List.length_append]
    omega
  · rcases on with hs | hs <;> simp [enqueue, hs] at dead

/-- A port made ACTIVE and empty with `n` credits. -/
theorem recovered_sound {n : Nat} (limit : n ≤ 6) (stalled : p.state = .stalled) (sound : p.Sound h) :
    Sound { p with state := .active, credits := n, queue := [] } h := by
  obtain ⟨-, -, -, hheld, hsince, -⟩ := sound
  refine ⟨limit, ?_, ?_, ?_, ?_, ?_⟩ <;> simp_all

theorem credits_sound {n : Nat} (limit : n ≤ 6) (on : p.state = .active ∨ p.state = .waiting) (sound : p.Sound h) :
    Sound { p with credits := n } h := by
  obtain ⟨-, hqueue, howed, hheld, hsince, -⟩ := sound
  refine ⟨limit, hqueue, howed, hheld, hsince, fun dead => ?_⟩
  rcases on with hs | hs <;> simp [hs] at dead

end Port

/-! ### The follower (R42 to R54) -/

namespace Follower

variable {f : Follower}

theorem diff_le_ageLimit (a b : Time) : Time.diff a b ≤ Config.ageLimit := by
  have : (a - b).toInt < 2 ^ 23 := BitVec.toInt_lt
  simp only [Time.diff, Config.ageLimit]
  omega

theorem anchor_sound (sound : f.Sound) (now ta : Time) (ba : Nat) : (f.anchor now ta ba).Sound := by
  obtain ⟨hcount, hfreeze, -, hbounds, hperiod⟩ := sound
  exact ⟨hcount, hfreeze, diff_le_ageLimit _ _, hbounds, hperiod⟩

theorem engage_sound (sound : f.Sound) : f.engage.Sound := by
  obtain ⟨hcount, hfreeze, hage, hbounds, hperiod⟩ := sound
  unfold engage
  split
  · next lead => exact ⟨hcount, by simpa [lead.1] using hfreeze, hage, hbounds, fun _ => hperiod (by simp [lead.1])⟩
  · exact ⟨hcount, hfreeze, hage, hbounds, hperiod⟩

theorem countMatch_sound (sound : f.Sound) : f.countMatch.Sound := by
  obtain ⟨-, hfreeze, hage, hbounds, hperiod⟩ := sound
  exact ⟨Nat.min_le_right _ _, hfreeze, hage, hbounds, hperiod⟩

/-- A record that leaves the freeze, or was in none, for a state that is neither IDLE nor FREEZE. -/
theorem enters_sound (sound : f.Sound) (on : f.mode ≠ .idle) {mode : Mode} (notFreeze : mode ≠ .freeze) {n : Nat}
    (count : n ≤ 4) : Sound { f with mode := mode, freeze := none, matchCount := n } := by
  obtain ⟨-, -, hage, hbounds, hperiod⟩ := sound
  exact ⟨count, by simp [notFreeze], hage, hbounds, fun _ => hperiod on⟩

theorem correctedPeriod_bounds (sound : f.Sound) (on : f.mode ≠ .idle) (m : Nat) (e : Int) :
    f.profile.pmin ≤ f.correctedPeriod m e ∧ f.correctedPeriod m e ≤ f.profile.pmax := by
  obtain ⟨-, -, -, hbounds, hperiod⟩ := sound
  unfold correctedPeriod
  split
  · split
    · exact clamp_bounds hbounds _
    · exact hperiod on
  · exact hperiod on

theorem freeze_eq_none (sound : f.Sound) (h : f.mode ≠ .freeze) : f.freeze = none := by
  obtain ⟨-, hfreeze, -⟩ := sound
  simpa [h] using hfreeze

end Follower

end Sys2Proof.Machine

/-! The passage through every event: what a `KeptByOwn` survives, and what a `Kept` survives. -/

namespace Sys2Proof.Machine

-- One proof at a time, for the memory limit of the check.
set_option Elab.async false

/-! ### The follower's records at its events (R51 to R61, R73 to R101) -/

theorem ProfileRow.profile_bounds {r : ProfileRow} (valid : r.valid = true) : r.profile.pmin ≤ r.profile.pmax := by
  simp only [ProfileRow.valid, Bool.and_eq_true, decide_eq_true_eq] at valid
  obtain ⟨⟨⟨⟨⟨_, least⟩, ordered⟩, _⟩, _⟩, _⟩ := valid
  exact Nat.div_le_div_left ordered.1 (by omega)

theorem State.hymn_sound {s : State} (sound : s.ClockSound) (i : Fin 8) (d1 d2 : Data12) :
    (s.follower.hymn s.deviceTime s.tables.profile[i].profile d1 d2).Sound := by
  obtain ⟨-, -, -, -, hprofile, -⟩ := sound
  have bounds := ProfileRow.profile_bounds (hprofile i)
  exact ⟨by simp [Follower.hymn], by simp [Follower.hymn], by simp [Follower.hymn, Config.ageLimit], bounds,
    fun _ => clamp_bounds bounds _⟩

namespace Follower

variable {f : Follower}

theorem engage_mode_ne_idle (on : f.mode ≠ .idle) : f.engage.mode ≠ .idle := by
  unfold engage
  split
  · simp
  · exact on

theorem start_sound (sound : f.Sound) (waits : f.mode = .countIn ∨ f.mode = .starved) (now : Time) (q : Nat)
    (d1 : Data12) : (f.start now q d1).Sound := by
  have on : f.mode ≠ .idle := by rcases waits with h | h <;> simp [h]
  have notFreeze : f.mode ≠ .freeze := by rcases waits with h | h <;> simp [h]
  have entered := enters_sound (anchor_sound sound now (now + d1.setWidth 24) q) on (mode := .lead) (by simp)
    (Nat.zero_le 4)
  have same : f.freeze = none := freeze_eq_none sound notFreeze
  simpa [start, anchor, same] using entered

theorem stop_sound (sound : f.Sound) : f.stop.Sound := by
  obtain ⟨-, -, hage, hbounds, -⟩ := sound
  exact ⟨Nat.zero_le 4, by simp [stop], hage, hbounds, by simp [stop]⟩

theorem silenceFall_sound (sound : f.Sound) (follow : f.mode = .follow) :
    Sound { f with mode := .lead, matchCount := 0 } := by
  have entered := enters_sound sound (by simp [follow]) (mode := .lead) (by simp) (Nat.zero_le 4)
  have same : f.freeze = none := freeze_eq_none sound (by simp [follow])
  simpa [same] using entered

theorem freezeOn_sound (sound : f.Sound) (on : f.mode ≠ .idle) (z : FreezeRecord) (q : Int) :
    Sound { f with mode := .freeze, freeze := some z, lastFreeze := q } := by
  obtain ⟨hcount, -, hage, hbounds, hperiod⟩ := sound
  exact ⟨hcount, by simp, hage, hbounds, fun _ => hperiod on⟩

theorem starve_sound (sound : f.Sound) (runs : f.mode.running = true) : f.starve.Sound := by
  have on : f.mode ≠ .idle := by rintro h; simp [h, Mode.running] at runs
  have notFreeze : f.mode ≠ .freeze := by rintro h; simp [h, Mode.running] at runs
  have entered := enters_sound sound on (mode := .starved) (by simp) (Nat.zero_le 4)
  have same : f.freeze = none := freeze_eq_none sound notFreeze
  simpa [starve, same] using entered

theorem thawByGate_sound (sound : f.Sound) (on : f.mode ≠ .idle) (q : Nat) (before : Running) :
    (f.thawByGate q before).Sound :=
  engage_sound (enters_sound sound on (mode := before.mode) (by cases before <;> simp [Running.mode]) sound.1)

theorem thawByExpiry_sound (sound : f.Sound) (on : f.mode ≠ .idle) (now : Time) (q : Nat) :
    (f.thawByExpiry now q).Sound :=
  enters_sound (anchor_sound sound now now q) on (mode := .lead) (by simp) (Nat.zero_le 4)

theorem unmatched_sound (sound : f.Sound) : Sound { f with matchCount := 0 } := by
  obtain ⟨-, hrest⟩ := sound
  exact ⟨Nat.zero_le 4, hrest⟩

theorem openByOnset_sound (sound : f.Sound) (now t : Time) (q : Nat) : (f.openByOnset now t q).Sound :=
  engage_sound (countMatch_sound (anchor_sound sound now t q))

theorem correct_sound (sound : f.Sound) (on : f.mode ≠ .idle) (now t : Time) (m : Nat) (e : Int) :
    (f.correct now t m e).Sound := by
  have bounds := correctedPeriod_bounds sound on m e
  obtain ⟨hcount, hfreeze, hage, hbounds, -⟩ := countMatch_sound (anchor_sound sound now
    (f.predicted m + BitVec.ofInt 24 (Int.tdiv (e * (f.profile.alpha : Int)) 16)) m)
  exact engage_sound ⟨hcount, hfreeze, hage, hbounds, fun _ => bounds⟩

theorem exitByOnset_sound (sound : f.Sound) (on : f.mode ≠ .idle) (now t : Time) (q : Nat) {mode : Mode}
    (notFreeze : mode ≠ .freeze) : (f.exitByOnset now t q mode).Sound :=
  engage_sound (enters_sound (anchor_sound sound now t q) on notFreeze (by simp))

theorem noteReleased_sound (sound : f.Sound) (q : Nat) : (f.noteReleased q).Sound := sound

theorem aged_sound (sound : f.Sound) : Sound { f with age := min (f.age + 1) Config.ageLimit } := by
  obtain ⟨hcount, hfreeze, -, hrest⟩ := sound
  exact ⟨hcount, hfreeze, min_le_right _ _, hrest⟩

end Follower

/-! ### Events that leave the musical part alone -/

namespace State

theorem openLoad_music (s : State) : s.openLoad.music = s.music := by
  unfold openLoad
  split
  · rfl
  · dsimp only
    split <;> rfl

theorem abort_music (s : State) : s.abort.music = s.music := by
  unfold abort
  split <;> rfl

theorem loseLock_music (s : State) : s.loseLock.music = s.music := by
  have lost : (({ s.openLoad with nave := s.openLoad.nave.lost } : State).raise Counter.lockLosses).abort.music
      = s.music := (abort_music _).trans (openLoad_music s)
  unfold loseLock
  dsimp only
  split
  · exact lost
  · exact lost

theorem takeLockLoss_music (s : State) : s.takeLockLoss.music = s.music := by
  unfold takeLockLoss
  split
  · exact loseLock_music s
  · rfl

theorem takeSync_music (s : State) (a : Sys2Proof.Alignment) : (s.takeSync a).music = s.music := by
  unfold takeSync
  dsimp only
  split
  · exact loseLock_music s
  · split <;> rfl

theorem endByHeader_music (s : State) : s.endByHeader.music = s.music := by
  unfold endByHeader
  split
  · rfl
  · exact abort_music s
  · split <;> rfl

theorem assemble_music (s : State) (m : Message) : (s.assemble m).music = s.music := by
  unfold assemble complete
  split
  · rfl
  · split <;> rfl

theorem takeHeader_music (s : State) (h : Header) (acting : Bool) : (s.takeHeader h acting).music = s.music :=
  (assemble_music _ _).trans (endByHeader_music s)

theorem takeDamaged_music (s : State) (c : Counter) : (s.takeDamaged c).music = s.music :=
  abort_music s

theorem takeChordHeader_music (s : State) (x : Symbol) : (s.takeChordHeader x).music = s.music := by
  unfold takeChordHeader
  split
  · exact takeHeader_music _ _ _
  · exact takeDamaged_music _ _

theorem takeRead_music (s : State) : s.takeRead.music = s.music := by
  unfold takeRead State.read
  split
  · split <;> rfl
  · rfl

theorem takeClear_music (s : State) : s.takeClear.music = s.music := by
  unfold takeClear State.clear
  split
  · split <;> rfl
  · rfl

theorem fillReturnSlot_music (s : State) : s.fillReturnSlot.music = s.music := by
  obtain ⟨_, _, _, h⟩ := s.fillReturnSlot_frame
  rw [h]
  rfl

theorem takeBeacon_music (s : State) : s.takeBeacon.music = s.music := by
  unfold takeBeacon
  split
  · exact fillReturnSlot_music s
  · rfl

/-- The last frame of a response is sent by the choice of a slot's frame (R170). -/
theorem takeResponseComplete_music (s : State) : s.takeResponseComplete.music = s.music := by
  unfold takeResponseComplete
  split
  · next due =>
    have unchosen : s.returnLine.now.isNone = true := by
      simp only [lastFrameDue, Bool.and_eq_true] at due
      exact due.1.1.1
    have same : s.fillReturnSlot = s.chooseReturn := if_pos unchosen
    exact same ▸ fillReturnSlot_music s
  · rfl

end State

end Sys2Proof.Machine

namespace Sys2Proof.Machine

-- One proof at a time, for the memory limit of the check.
set_option Elab.async false

/-! ### Acts on a port -/

theorem State.setChest_self (s : State) (d : Division) (p : Port) :
    s.setChest d p s.held[d] s.divisions[d] = s.setPort d p := by
  simp [State.setChest, State.setPort]

theorem State.quiet_eq_setChest (s : State) (d : Division) :
    s.quiet d = s.setChest d s.ports[d].endWait.oweAllOff none DivisionRecord.silent :=
  State.quiet_eq d s

theorem State.silence_eq_setChest (s : State) (d : Division) :
    s.silence d = s.setChest d s.ports[d].oweAllOff s.held[d] DivisionRecord.silent := by
  simp [State.setChest, State.silence, State.setPort, State.setDivision]

/-- A port replaced and its division silenced, its held release replaced with it. -/
theorem State.silence_setHeld_setPort (s : State) (d : Division) (p : Port) (h : Option RowNumber) :
    ((s.setHeld d h).setPort d p).silence d = s.setChest d p.oweAllOff h DivisionRecord.silent := by
  simp [State.setChest, State.silence, State.setPort, State.setDivision, State.setHeld]

theorem State.silence_setPort (s : State) (d : Division) (p : Port) :
    (s.setPort d p).silence d = s.setChest d p.oweAllOff s.held[d] DivisionRecord.silent := by
  simp [State.setChest, State.silence, State.setPort, State.setDivision]

/-! ### What the acts leave alone -/

@[simp] theorem State.openRow_follower (s : State) (r : RowNumber) : (s.openRow r).follower = s.follower := by
  unfold State.openRow
  split <;> rfl

@[simp] theorem State.openRow_tables (s : State) (r : RowNumber) : (s.openRow r).tables = s.tables := by
  unfold State.openRow
  split <;> rfl

theorem State.armRow_gated {s : State} {r : RowNumber} (h : s.armRow = some r) : s.cues[r].rowState = .gated := by
  unfold State.armRow at h
  split at h
  · next x hx =>
    split at h
    · obtain rfl := Option.some.inj h
      exact State.earliestGated_gated hx
    · cases h
  · cases h

theorem State.expiredGate_eq {s : State} {m : GateMode} {r : RowNumber} (h : s.expiredGate m = some r) :
    s.earliestGated = some r := by
  unfold State.expiredGate at h
  split at h
  · next x hx =>
    split at h
    · split at h
      · exact Option.some.inj h ▸ hx
      · cases h
    · cases h
  · cases h

theorem State.releaseRow_eq_some_iff {s : State} {d : Division} {r : RowNumber} :
    s.releaseRow d = some r ↔ s.held[d] = none ∧ s.dueRow d = some r := by
  unfold State.releaseRow
  cases s.held[d] <;> simp

theorem CueRow.sameStanding_setMark (c : CueRow) (l : Loft) : (c.setMark l).SameStanding c := by
  cases l <;> exact ⟨rfl, rfl, rfl, Or.inl⟩

namespace KeptByOwn

variable {P : State → Prop} (k : KeptByOwn P)

include k

/-! ### Ports and silencing -/

theorem setPort {s : State} {d : Division} {p : Port} (hs : P s)
    (sound : s.ports[d].Sound s.held[d] → p.Sound s.held[d]) : P (s.setPort d p) := by
  rw [← State.setChest_self]
  exact k.chest hs sound (Or.inl rfl) (Or.inl rfl)

theorem quiet (d : Division) (s : State) (hs : P s) : P (s.quiet d) := by
  rw [State.quiet_eq_setChest]
  exact k.chest hs (fun sound => Port.oweAllOff_sound (Port.endWait_sound sound)) (Or.inr rfl) (Or.inr rfl)

theorem enterAllOff (d : Division) (s : State) (hs : P s) : P (s.enterAllOff d) := by
  unfold State.enterAllOff
  split
  · next ready => exact k.setPort hs (Port.enterAllOff_sound ready)
  · exact hs

theorem fillChestSlot (d : Division) (s : State) (hs : P s) : P (s.fillChestSlot d) :=
  k.setPort hs (Port.fillSlot_sound _)

theorem fillSlots {s : State} (hs : P s) : P s.fillSlots :=
  k.frame (forDivisions_keeps k.fillChestSlot s hs) (State.fillReturnSlot_music _)

theorem flushPort (d : Division) (s : State) (hs : P s) : P (s.flushPort d) := by
  unfold State.flushPort
  split
  · exact hs
  · rw [State.silence_setHeld_setPort]
    exact k.chest hs (fun _ => Port.oweAllOff_sound (Port.flushed_sound _)) (Or.inr rfl) (Or.inr rfl)

theorem receiveLockLoss {s : State} (d : Division) (hs : P s) : P (s.takeReceiveLockLoss d) := by
  unfold State.takeReceiveLockLoss
  split
  · exact k.setPort hs id
  · exact hs

/-! ### Placement (R27 to R39) -/

theorem placeCue {s : State} (r : RowNumber) (q : Nat) (codes : Voices Value6) (set : BitVec 4)
    (syllable fermata : Bool) (gate : GateMode) (hs : P s) (on : s.follower.mode ≠ .idle) :
    P (s.placeCue r (placedRow q codes set syllable fermata gate)) := by
  unfold State.placeCue
  split
  · exact k.frame hs rfl
  · next high =>
    split
    · exact k.frame hs rfl
    · next free => exact k.filled q codes set syllable fermata gate hs (not_le.mp high) (not_not.mp free) on

end KeptByOwn

theorem State.placeCue_follower (s : State) (r : RowNumber) (c : CueRow) : (s.placeCue r c).follower = s.follower := by
  unfold State.placeCue
  split
  · rfl
  · split <;> rfl

namespace KeptByOwn

variable {P : State → Prop} (k : KeptByOwn P)

include k

theorem placeChord {s : State} (base : Fin 50) (d1 d2 d3 d4 : Data12) (hs : P s) : P (s.placeChord base d1 d2 d3 d4) := by
  unfold State.placeChord
  split
  · exact k.frame hs rfl
  · next gate _ =>
    split
    · exact k.frame hs rfl
    · split
      · exact k.frame hs rfl
      · next on =>
        generalize chordSubBeats d2 = subs
        induction subs generalizing s with
        | nil => exact hs
        | cons sub subs ih =>
          exact ih (k.placeCue _ _ _ _ _ _ _ hs on) (by rwa [State.placeCue_follower])

theorem chordMessage {s : State} (hs : P s) : P s.takeChordMessage := by
  unfold State.takeChordMessage
  split
  · exact k.placeChord _ _ _ _ _ (k.frame hs rfl)
  · exact hs

theorem listenExpiry {s : State} (r : RowNumber) (hs : P s) : P (s.takeListenExpiry r) := by
  unfold State.takeListenExpiry
  split
  · next ends =>
    simp only [State.listenEnds, Bool.and_eq_true, decide_eq_true_eq] at ends
    exact k.expired hs ends.1.1
  · exact hs

/-! ### The follower's commands and entries (R49 to R61) -/

theorem hymnCommand {s : State} (d1 d2 : Data12) (hs : P s) : P (s.hymn d1 d2) := by
  unfold State.hymn
  split
  · next accepted => exact k.hymn hs (fun sound => State.hymn_sound sound _ _ _) accepted.1
  · exact k.frame hs rfl

theorem takeHymn {s : State} (hs : P s) : P s.takeHymn := by
  unfold State.takeHymn
  split
  · exact k.hymnCommand _ _ (k.frame hs rfl)
  · exact hs

theorem armReached {s : State} (hs : P s) : P s.armReached := by
  unfold State.armReached
  split
  · next r hr => exact k.row hs ⟨rfl, rfl, rfl, fun _ => Or.inr (State.armRow_gated hr)⟩
  · exact hs

theorem start {s : State} (d1 : Data12) (hs : P s) : P (s.start d1) := by
  unfold State.start
  split
  · next waits =>
    split
    · exact k.armReached (k.follower hs (fun sound => Follower.start_sound sound.1 waits _ _ _)
        (by simp [Follower.start]))
    · exact k.frame hs rfl
  · exact k.frame hs rfl

theorem takeStart {s : State} (hs : P s) : P s.takeStart := by
  unfold State.takeStart
  split
  · exact k.start _ (k.frame hs rfl)
  · exact hs

end KeptByOwn

/-- Silencing every division reads and changes neither the Cue Table nor the follower (R137, R156). -/
theorem State.quiet_stopped (s : State) (f : Follower) (d : Division) :
    ((s.setFollower f).emptyTable).quiet d = ((s.quiet d).setFollower f).emptyTable :=
  rfl

theorem State.quiet_held (s : State) (d e : Division) : (s.quiet d).held[e] = if d = e then none else s.held[e] :=
  State.setHeld_get s d e none

theorem State.forDivisions_quiet_held (s : State) (d : Division) : (forDivisions State.quiet s).held[d] = none := by
  simp only [forDivisions, State.quiet_held]
  fin_cases d <;> rfl

theorem State.quiet_follower (s : State) (d : Division) : (s.quiet d).follower = s.follower :=
  rfl

/-- An accepted STOP, its four withdrawals taken first (R41, R61). -/
theorem State.stop_eq {s : State} (on : s.follower.mode ≠ .idle) : s.stop
    = ((forDivisions State.quiet s).setFollower (forDivisions State.quiet s).follower.stop).emptyTable := by
  rw [State.stop, if_neg on]
  simp only [forDivisions, State.quiet_stopped, State.quiet_follower]

theorem Mode.running_ne_idle {m : Mode} (h : m.running = true) : m ≠ .idle := by
  rintro rfl
  cases h

namespace KeptByOwn

variable {P : State → Prop} (k : KeptByOwn P)

include k

theorem stop {s : State} (hs : P s) : P s.stop := by
  rcases eq_or_ne s.follower.mode .idle with idle | on
  · rw [State.stop, if_pos idle]
    exact k.frame hs rfl
  · rw [State.stop_eq on]
    exact k.stopped (forDivisions_keeps k.quiet _ hs) (State.forDivisions_quiet_held _)

theorem takeStop {s : State} (hs : P s) : P s.takeStop := by
  unfold State.takeStop
  split
  · exact k.stop (k.frame hs rfl)
  · exact hs

theorem silenceFall {s : State} (hs : P s) : P s.takeSilenceFall := by
  unfold State.takeSilenceFall
  split
  · next falls =>
    simp only [State.silenceFalls, Bool.and_eq_true, decide_eq_true_eq] at falls
    exact k.follower hs (fun sound => Follower.silenceFall_sound sound.1 falls.1) (by simp)
  · exact hs

theorem freezeEntry {s : State} (hs : P s) : P s.takeFreezeEntry := by
  unfold State.takeFreezeEntry
  split
  · next r hr =>
    have running : s.follower.mode.running = true := by
      unfold State.freezeRow at hr
      split at hr
      · assumption
      · cases hr
    exact k.follower (k.disarmed _ hs)
      (fun sound => Follower.freezeOn_sound sound.1 (Mode.running_ne_idle running) _ _) (by simp)
  · exact hs

theorem starvationEntry {s : State} (hs : P s) : P s.takeStarvationEntry := by
  unfold State.takeStarvationEntry
  split
  · next starves =>
    simp only [State.starves, Bool.and_eq_true] at starves
    have starved : P (s.setFollower s.follower.starve) :=
      k.follower hs (fun sound => Follower.starve_sound sound.1 starves.1.1) (by simp [Follower.starve])
    exact k.frame (forDivisions_keeps k.quiet _ starved) rfl
  · exact hs

/-! ### Gates and fermatas (R82 to R98) -/

theorem openRow {s : State} (r : RowNumber) (hs : P s) : P (s.openRow r) := by
  unfold State.openRow
  split
  · next gated => exact k.opened hs gated
  · exact hs

theorem anchorOn {s : State} (r : RowNumber) (ta : Time) (hs : P s) : P (s.anchorOn r ta) :=
  k.follower hs (fun sound => Follower.anchor_sound sound.1 _ _ _) id

theorem openGateNow {s : State} (r : RowNumber) (hs : P s) : P (s.openGateNow r) :=
  k.anchorOn r _ (k.openRow r hs)

theorem gateFrozen {s : State} (r : RowNumber) (before : Running) (hs : P s) (freezes : s.follower.mode = .freeze) :
    P ((s.openGateNow r).setFollower ((s.openGateNow r).follower.thawByGate s.cues[r].position before)) := by
  have on : (s.openGateNow r).follower.mode ≠ .idle := by
    simp [State.openGateNow, State.anchorOn, Follower.anchor, freezes]
  refine k.follower (k.openGateNow r hs) (fun sound => Follower.thawByGate_sound sound.1 on _ _) (fun idle => ?_)
  exact absurd idle (Follower.engage_mode_ne_idle (by cases before <;> simp [Running.mode]))

theorem gate {s : State} (hs : P s) : P s.gate := by
  have refused : P s.refuse := k.frame hs rfl
  have opened : ∀ r, P (s.openGateNow r).armReached := fun r => k.armReached (k.openGateNow r hs)
  unfold State.gate
  split
  · split
    · exact opened _
    · exact refused
  · split
    · exact opened _
    · exact refused
  · next freezes =>
    split
    · dsimp only
      split
      · exact opened _
      · exact k.armReached (k.gateFrozen _ _ hs freezes)
    · exact refused
  · exact refused
  · exact refused
  · exact refused

theorem takeGate {s : State} (hs : P s) : P s.takeGate := by
  unfold State.takeGate
  split
  · exact k.gate (k.frame hs rfl)
  · exact hs

theorem gateSoundExpiry {s : State} (hs : P s) : P s.takeGateSoundExpiry := by
  unfold State.takeGateSoundExpiry
  split
  · exact k.armReached (k.openGateNow _ (k.frame hs rfl))
  · exact hs

theorem gateDropExpiry {s : State} (hs : P s) : P s.takeGateDropExpiry := by
  unfold State.takeGateDropExpiry
  split
  · next r hr =>
    have gated := State.earliestGated_gated (State.expiredGate_eq hr)
    exact k.armReached (k.anchorOn r _ (k.dropped (k.frame hs rfl) gated))
  · exact hs

theorem fermataExpiry {s : State} (hs : P s) : P s.takeFermataExpiry := by
  unfold State.takeFermataExpiry
  split
  · next z hz =>
    have freezes : s.follower.mode = .freeze := by
      unfold State.expiredFreeze at hz
      split at hz
      · split at hz
        · next expired => exact expired.1
        · cases hz
      · cases hz
    exact k.armReached (k.follower hs (fun sound => Follower.thawByExpiry_sound sound.1 (by simp [freezes]) _ _)
      (by simp [Follower.thawByExpiry]))
  · exact hs

/-! ### Onsets (R64 to R101) -/

theorem matchMark {s : State} (r : RowNumber) (l : Loft) (hs : P s) : P (s.matchMark r l) :=
  k.row hs (CueRow.sameStanding_setMark _ l)

theorem unmatched {s : State} (lead : Bool) (hs : P s) : P (s.unmatched lead) := by
  have counted : P (s.raise Counter.unmatchedOnsets) := k.frame hs rfl
  unfold State.unmatched
  dsimp only
  split
  · exact k.follower counted (fun sound => Follower.unmatched_sound sound.1) id
  · exact counted

theorem markOnly {s : State} (r : RowNumber) (l : Loft) (hs : P s) : P (s.markOnly r l) :=
  k.frame (k.matchMark r l hs) rfl

theorem leadMatch {s : State} (r : RowNumber) (l : Loft) (hs : P s) : P (s.leadMatch r l) :=
  k.frame (k.matchMark r l hs) rfl

theorem matchRunning {s : State} (lead : Bool) (l : Loft) (t : Time) (r : RowNumber) (hs : P s)
    (on : s.follower.mode ≠ .idle) : P (s.matchRunning lead l t r) := by
  unfold State.matchRunning
  split
  · split
    · refine k.armReached (k.follower (k.openRow r (k.leadMatch r l hs)) (fun sound => ?_) (fun idle => ?_))
      · exact Follower.openByOnset_sound (State.openRow_follower (s.leadMatch r l) r ▸ sound.1) _ _ _
      · exact absurd idle (Follower.engage_mode_ne_idle on)
    · split
      · exact k.markOnly r l hs
      · refine k.armReached (k.follower (k.leadMatch r l hs) (fun sound => ?_) (fun idle => ?_))
        · exact Follower.correct_sound sound.1 on _ _ _ _
        · exact absurd idle (Follower.engage_mode_ne_idle on)
  · exact k.markOnly r l hs

theorem exitOn {s : State} (l : Loft) (t : Time) (r : RowNumber) {mode : Mode} (runs : mode.running = true) (hs : P s)
    (on : s.follower.mode ≠ .idle) : P (s.exitOn l t r mode) := by
  refine k.armReached (k.follower (k.openRow r (k.leadMatch r l hs)) (fun sound => ?_) (fun idle => ?_))
  · exact Follower.exitByOnset_sound (State.openRow_follower (s.leadMatch r l) r ▸ sound.1) on _ _ _ (by rintro rfl; cases runs)
  · exact absurd idle (Follower.engage_mode_ne_idle (Mode.running_ne_idle runs))

theorem onset {s : State} (rec : Value6) (hs : P s) : P (s.takeOnset rec) := by
  have uncounted : P (s.raise Counter.unmatchedOnsets) := k.frame hs rfl
  have running : ∀ lead l t, s.follower.mode ≠ .idle → P (s.onsetRunning lead l t) := by
    intro lead l t on
    unfold State.onsetRunning
    split
    · exact k.matchRunning lead l t _ hs on
    · exact k.unmatched lead hs
  unfold State.takeOnset
  dsimp only
  split
  · exact hs
  · next on =>
    split
    · exact hs
    · split
      · exact hs
      · exact uncounted
      · exact running _ _ _ on
      · exact running _ _ _ on
      · split
        · next z _ =>
          unfold State.onsetFrozen
          split
          · exact k.markOnly _ _ hs
          · split
            · split
              · exact k.exitOn _ _ _ (by cases z.before <;> rfl) hs on
              · exact uncounted
            · exact uncounted
        · exact hs
      · unfold State.onsetStarved
        split
        · split
          · exact k.exitOn _ _ _ rfl hs on
          · exact k.unmatched _ hs
        · exact k.unmatched _ hs

end KeptByOwn
end Sys2Proof.Machine

namespace Sys2Proof.Machine

-- One proof at a time, for the memory limit of the check.
set_option Elab.async false

/-! ### Releases as one act on the musical part (R108 to R112, R151, R154) -/

namespace State

variable {s : State} {d : Division} {r : RowNumber}

theorem held_set_none (h : s.held[d] = none) : s.held.set d none = s.held := by
  rw [← h]
  exact Vector.set_getElem_self _

theorem offerRow_eq_some_iff : s.offerRow d = some r ↔
    s.ports[d].offerDue = true ∧ s.ports[d].state = .waiting ∧ s.held[d] = some r := by
  rw [offerRow, Option.ite_none_right_eq_some, Bool.and_eq_true, decide_eq_true_eq, and_assoc]

theorem noteLate_music (s : State) (late : Bool) : (s.noteLate late).music = s.music := by
  unfold noteLate
  split <;> rfl

theorem setPort_self (s : State) (d : Division) : s.setPort d s.ports[d] = s := by
  simp [setPort]

theorem setDivision_self (s : State) (d : Division) : s.setDivision d s.divisions[d] = s := by
  simp [setDivision]

theorem markReleased_setHeld (s : State) (d e : Division) (r : RowNumber) (h : Option RowNumber) :
    (s.markReleased d r).setHeld e h = (s.setHeld e h).markReleased d r :=
  rfl

theorem markReleased_setPort (s : State) (d e : Division) (r : RowNumber) (p : Port) :
    (s.markReleased d r).setPort e p = (s.setPort e p).markReleased d r :=
  rfl

theorem setHeld_setPort (s : State) (d e : Division) (h : Option RowNumber) (p : Port) :
    (s.setPort d p).setHeld e h = (s.setHeld e h).setPort d p :=
  rfl

theorem released_of_none {p : Port} {x : DivisionRecord} (h : s.held[d] = none) :
    s.released d r p x = ((s.setDivision d x).setPort d p).markReleased d r := by
  rw [released, setChest, held_set_none h]
  rfl

theorem markReleased_music (h : s.held[d] = none) :
    (s.markReleased d r).music = (s.released d r s.ports[d] s.divisions[d]).music := by
  rw [released_of_none h, setDivision_self, setPort_self]

theorem releaseUnheard_music (h : s.held[d] = none) :
    (s.releaseUnheard d r).music = (s.released d r s.ports[d] (s.computeCue d r).record).music := by
  have same := setPort_self (s.setDivision d (s.computeCue d r).record) d
  rw [released_of_none h, ← setDivision_ports s d (s.computeCue d r).record, same]
  rfl

theorem enterRelease_music (h : s.held[d] = none) : (s.enterRelease d r).music
    = (s.released d r (s.ports[d].enqueue (s.computeCue d r).run) (s.computeCue d r).record).music := by
  rw [released_of_none h, enterRelease, noteLate_music]
  rfl

/-- A port written and then withdrawn from its wait. -/
theorem withdraw_markReleased_setPort (s : State) (d : Division) (r : RowNumber) (p : Port) :
    ((s.setPort d p).markReleased d r).withdraw d = ((s.setHeld d none).setPort d p.endWait).markReleased d r := by
  have written : ((s.setPort d p).markReleased d r).ports[d] = p := by
    rw [markReleased_ports, setPort_get, if_pos rfl]
  rw [withdraw, written, markReleased_setHeld, markReleased_setPort, setHeld_setPort]
  simp only [setPort, Vector.set_set]

theorem withdraw_enterRelease_music : ((s.enterRelease d r).withdraw d).music
    = (s.released d r (s.ports[d].enqueue (s.computeCue d r).run).endWait (s.computeCue d r).record).music := by
  have late : ∀ (t : State) (b : Bool), ((t.noteLate b).withdraw d).music = (t.withdraw d).music := by
    intro t b
    cases b <;> rfl
  rw [enterRelease, late, withdraw_markReleased_setPort]
  rfl

theorem stallPort_of_held (h : s.held[d] = some r) : s.stallPort d
    = ((((s.setPort d s.ports[d].stalled).releaseUnheard d r).setHeld d none).raise Counter.divisionStalls).setFlag
        .stall := by
  have held : (s.setPort d s.ports[d].stalled).held[d] = some r := h
  simp only [stallPort, applyHeld, held]

theorem stallPort_of_none (h : s.held[d] = none) : s.stallPort d
    = ((s.setPort d s.ports[d].stalled).raise Counter.divisionStalls).setFlag .stall := by
  have held : (s.setPort d s.ports[d].stalled).held[d] = none := h
  simp only [stallPort, applyHeld, held]

/-- A port replaced does not change what a cue gives (R123). -/
theorem computeCue_setPort (s : State) (d : Division) (p : Port) (r : RowNumber) :
    (s.setPort d p).computeCue d r = s.computeCue d r :=
  rfl

theorem stallPort_music_of_held (h : s.held[d] = some r) : (s.stallPort d).music
    = (s.released d r s.ports[d].stalled (s.computeCue d r).record).music := by
  have uncounted : ∀ (t : State) (n : Nat),
      (((((t.raiseBy Counter.keysOrCodes n).markReleased d r).setHeld d none).raise Counter.divisionStalls).setFlag
        .stall).music = ((t.setHeld d none).markReleased d r).music := fun _ _ => rfl
  rw [stallPort_of_held h, releaseUnheard, applyCue, computeCue_setPort, uncounted]
  rfl

theorem stallPort_music_of_none (h : s.held[d] = none) : (s.stallPort d).music
    = (s.setPort d s.ports[d].stalled).music := by
  rw [stallPort_of_none h]
  rfl

theorem markHeld_of_held (h : s.held[d] = some r) : s.markHeld d = (s.setHeld d none).markReleased d r := by
  simp only [markHeld, h, markReleased_setHeld]

/-- Disabling a division that holds a release (R154). -/
theorem disable_of_held (h : s.held[d] = some r) : s.disable d = s.released d r s.ports[d].disabled s.divisions[d] := by
  have same : s.setChest d s.ports[d].disabled none s.divisions[d] = (s.setHeld d none).setPort d s.ports[d].disabled :=
    congrArg (fun t => (t.setHeld d none).setPort d s.ports[d].disabled) (setDivision_self s d)
  have port : ((s.setHeld d none).markReleased d r).ports[d] = s.ports[d] := rfl
  rw [released, same, disable, markHeld_of_held h]
  rw [port, markReleased_setPort]

theorem disable_of_none (h : s.held[d] = none) : s.disable d = s.setPort d s.ports[d].disabled := by
  simp only [disable, markHeld, h]

theorem stallsNow_waiting (h : s.stallsNow d = true) : s.ports[d].state = .waiting := by
  simp only [stallsNow, Bool.and_eq_true, decide_eq_true_eq] at h
  exact h.1

end State

namespace KeptByOwn

variable {P : State → Prop} (k : KeptByOwn P)

include k

/-! ### Releases and stalls -/

theorem releaseTo {s : State} {d : Division} {r : RowNumber} (hs : P s) (due : s.releaseRow d = some r) :
    P (s.releaseTo d r) := by
  have held : s.held[d] = none := (State.releaseRow_eq_some_iff.mp due).1
  unfold State.releaseTo
  split
  · exact k.frame (k.released hs (Or.inl due) (held ▸ id) (Or.inl rfl)) (State.markReleased_music held)
  · exact k.frame (k.released hs (Or.inl due) (held ▸ id) (Or.inr rfl)) (State.releaseUnheard_music held)
  · next active =>
    split
    · next fits =>
      refine k.frame (k.released hs (Or.inl due) (fun sound => ?_) (Or.inr rfl)) (State.enterRelease_music held)
      exact held ▸ Port.enqueue_sound fits (Or.inl active) sound
    · exact k.hold hs due active
  · exact hs

theorem release (d : Division) (s : State) (hs : P s) : P (s.takeRelease d) := by
  unfold State.takeRelease
  split
  · next due => exact k.releaseTo hs due
  · exact hs

theorem offer (d : Division) (s : State) (hs : P s) : P (s.takeOffer d) := by
  unfold State.takeOffer
  split
  · next due =>
    obtain ⟨-, waiting, held⟩ := State.offerRow_eq_some_iff.mp due
    split
    · next fits =>
      refine k.frame (k.released hs (Or.inr held) (fun sound => ?_) (Or.inr rfl)) State.withdraw_enterRelease_music
      exact Port.endWait_sound (Port.enqueue_sound fits (Or.inr waiting) sound)
    · exact k.setPort hs id
  · exact hs

theorem stallPort (d : Division) (s : State) (hs : P s) : P (s.stallPort d) := by
  cases held : s.held[d] with
  | some r =>
    exact k.frame (k.released hs (Or.inr held) (fun _ => Port.stalled_sound _) (Or.inr rfl))
      (State.stallPort_music_of_held held)
  | none =>
    exact k.frame (k.setPort hs fun _ => held ▸ Port.stalled_sound _) (State.stallPort_music_of_none held)

theorem takeStall (d : Division) (s : State) (hs : P s) : P (s.takeStall d) := by
  rcases State.takeStall_cases s d with h | h | h <;> rw [h]
  · exact hs
  · exact k.offer d s hs
  · exact k.stallPort d _ (k.offer d s hs)

theorem flush {s : State} (p : Data12) (hs : P s) : P (s.flush p) := by
  unfold State.flush
  split
  · refine forDivisions_keeps (fun d t ht => ?_) s hs
    split
    · exact k.flushPort d t ht
    · exact ht
  · exact k.frame hs rfl

theorem takeFlush {s : State} (hs : P s) : P s.takeFlush := by
  unfold State.takeFlush
  split
  · exact k.flush _ (k.frame hs rfl)
  · exact hs

/-! ### Every own event, and their settling (log 3) -/

theorem takeOwn {s : State} (c : Instr) (hs : P s) : P (s.takeOwn c) := by
  cases c with
  | lockLoss => exact k.frame hs (State.takeLockLoss_music s)
  | chordMessage => exact k.chordMessage hs
  | load => exact k.frame hs (State.openLoad_music s)
  | read => exact k.frame hs (State.takeRead_music s)
  | hymn => exact k.takeHymn hs
  | start => exact k.takeStart hs
  | stop => exact k.takeStop hs
  | gate => exact k.takeGate hs
  | flush => exact k.takeFlush hs
  | clear => exact k.frame hs (State.takeClear_music s)
  | listenExpiry r => exact k.listenExpiry r hs
  | silenceFall => exact k.silenceFall hs
  | freezeEntry => exact k.freezeEntry hs
  | starvationEntry => exact k.starvationEntry hs
  | arm => exact k.armReached hs
  | gateSoundExpiry => exact k.gateSoundExpiry hs
  | gateDropExpiry => exact k.gateDropExpiry hs
  | fermataExpiry => exact k.fermataExpiry hs
  | release d => exact k.release d s hs
  | heldReleaseOffer d => exact k.offer d s hs
  | allOffEntry d => exact k.enterAllOff d s hs
  | wordLeaving d => exact k.fillChestSlot d s hs
  | stall d => exact k.takeStall d s hs
  | receiveLockLoss d => exact k.receiveLockLoss d hs
  | beacon => exact k.frame hs (State.takeBeacon_music s)
  | responseComplete => exact k.frame hs (State.takeResponseComplete_music s)
  | _ => exact hs

theorem settle {s : State} (n : Nat) (hs : P s) : P (Machine.settle n s) :=
  settle_keeps (fun _ c => k.takeOwn c) n s hs

end KeptByOwn

/-! ### What arrives from outside -/

namespace KeptByOwn

variable {P : State → Prop} (k : KeptByOwn P)

include k

theorem credit {s : State} (d : Division) (v : Value6) (hs : P s) : P (s.takeCredit d v) := by
  have added : ∀ n, (s.ports[d].state = .active ∨ s.ports[d].state = .waiting) → P (s.addCredit d n) := by
    intro n on
    unfold State.addCredit
    split
    · next room => exact k.setPort hs (Port.credits_sound room on)
    · exact k.frame (k.setPort hs (Port.credits_sound (le_refl 6) on)) rfl
  unfold State.takeCredit
  split
  · exact hs
  · next accepted =>
    split
    · exact hs
    · next active => exact added _ (Or.inl active)
    · next waiting => exact added _ (Or.inr waiting)
    · next stalled =>
      rw [State.recover, State.silence_setPort]
      exact k.chest hs (fun sound => Port.oweAllOff_sound (Port.recovered_sound (by omega) stalled sound)) (Or.inl rfl)
        (Or.inr rfl)

theorem chestSync {s : State} (d : Division) (a : Sys2Proof.Alignment) (hs : P s) : P (s.takeChestSync d a) :=
  k.setPort hs id

theorem changePort {d : Division} (s : State) (enabled : Bool) (hs : P s) : P (s.changePort d enabled) := by
  unfold State.changePort
  split
  · split
    · next off =>
      rw [State.enable, State.silence_setPort]
      refine k.chest hs (fun sound => Port.oweAllOff_sound ?_) (Or.inl rfl) (Or.inr rfl)
      obtain ⟨-, -, -, hheld, -⟩ := sound
      have held : s.held[d] = none := by simpa [-Fin.getElem_fin, off] using hheld
      exact held ▸ Port.enabled_sound _
    · exact hs
  · split
    · exact hs
    · cases held : s.held[d] with
      | some r =>
        rw [State.disable_of_held held]
        exact k.released hs (Or.inr held) (fun _ => Port.disabled_sound _) (Or.inl rfl)
      | none =>
        rw [State.disable_of_none held]
        exact k.setPort hs fun _ => held ▸ Port.disabled_sound _

end KeptByOwn

/-- A vector of valid rows keeps its rows valid when a valid row replaces one. -/
theorem valid_set {α : Type} {n : Nat} {valid : α → Bool} {v : Vector α n} {i : Fin n} {x : α} (hx : valid x = true)
    (hv : ∀ j : Fin n, valid v[j] = true) (j : Fin n) : valid (v.set i x)[j] = true := by
  rw [Fin.getElem_fin, Vector.getElem_set]
  split
  · exact hx
  · exact hv j

namespace Kept

variable {P : State → Prop} (k : Kept P)

include k

theorem storeControl {s : State} (r : ControlRow) (hs : P s) :
    P (if r.valid then { s with tables := { s.tables with control := r } } else s.refuseRow) := by
  split
  · next valid =>
    exact k.tables hs fun ⟨_, hloft, hdivision, hprofile, hreg⟩ => ⟨valid, hloft, hdivision, hprofile, hreg⟩
  · exact k.frame hs rfl

theorem storeLoft {s : State} (i : Fin 2) (w : Data12) (hs : P s) :
    P (if loftValid w then { s with tables := { s.tables with loft := s.tables.loft.set i w } } else s.refuseRow) := by
  split
  · next valid =>
    exact k.tables hs fun ⟨hcontrol, hloft, hdivision, hprofile, hreg⟩ =>
      ⟨hcontrol, valid_set valid hloft, hdivision, hprofile, hreg⟩
  · exact k.frame hs rfl

theorem storeProfile {s : State} (i : Fin 8) (r : ProfileRow) (hs : P s) :
    P (if r.valid then { s with tables := { s.tables with profile := s.tables.profile.set i r } }
      else s.refuseRow) := by
  split
  · next valid =>
    exact k.tables hs fun ⟨hcontrol, hloft, hdivision, hprofile, hreg⟩ =>
      ⟨hcontrol, hloft, hdivision, valid_set valid hprofile, hreg⟩
  · exact k.frame hs rfl

theorem storeRegistration {s : State} (i : Fin 64) (r : RegistrationRow) (hs : P s) :
    P (if r.valid then { s with tables := { s.tables with registration := s.tables.registration.set i r } }
      else s.refuseRow) := by
  split
  · next valid =>
    exact k.tables hs fun ⟨hcontrol, hloft, hdivision, hprofile, hreg⟩ =>
      ⟨hcontrol, hloft, hdivision, hprofile, valid_set valid hreg⟩
  · exact k.frame hs rfl

theorem writeDivision {s : State} (d : Division) (r : DivisionRow) (valid : r.valid = true) (hs : P s) :
    P (s.writeDivision d r) := by
  refine State.writeDivision_keeps r k.changePort (k.takeStall d) (k.release d) s ?_
  exact k.tables hs fun ⟨hcontrol, hloft, hdivision, hprofile, hreg⟩ =>
    ⟨hcontrol, hloft, valid_set valid hdivision, hprofile, hreg⟩

/-- A table row handed to the Table Store: refused, stored, or for a division written with all that follows (R159). -/
theorem storeRow {s : State} (table : BitVec 4) (row : Nat) (words : List Data12) (hs : P s) :
    P (s.storeRow table row words) := by
  unfold State.storeRow
  split
  · exact k.storeControl _ hs
  · split
    · next inTable => exact k.storeLoft ⟨row, inTable⟩ _ hs
    · exact hs
  · split
    · dsimp only
      split
      · next valid => exact k.writeDivision _ _ valid hs
      · exact k.frame hs rfl
    · exact hs
  · split
    · next inTable => exact k.storeProfile ⟨row, inTable⟩ _ hs
    · exact hs
  · split
    · next inTable => exact k.storeRegistration ⟨row, inTable⟩ _ hs
    · exact hs
  · exact hs

theorem tableWord {s : State} (l : LoadStream) (w : Data12) (hs : P s) : P (s.tableWord l w) := by
  unfold State.tableWord
  split
  · split
    · exact hs
    · split
      · exact k.frame hs rfl
      · split
        · exact k.frame hs rfl
        · exact k.frame (k.storeRow l.table l.nextRow (l.staged ++ [w]) hs) rfl
  · exact hs

theorem data {s : State} (w : Data12) (hs : P s) : P (s.takeData w) := by
  unfold State.takeData
  split
  · exact k.frame hs rfl
  · exact k.frame hs (State.assemble_music _ _)
  · exact k.tableWord _ w hs

theorem resetRelease {s : State} (straps : BitVec 3) (hs : P s) : P (s.resetRelease straps) := by
  unfold State.resetRelease
  split
  · exact forDivisions_keeps k.enterAllOff _ (k.resetEnds straps hs)
  · exact hs

theorem endFrameTime {s : State} (hs : P s) : P s.endFrameTime := by
  unfold State.endFrameTime
  split
  · exact k.heldSlot hs
  · exact k.advance (k.fillSlots (k.settle _ hs))

/-! ### Every command (95) -/

/-- Every command answers a next state, and a `Kept` holds of it. -/
theorem exec {s : State} (c : Instr) (hs : P s) : ∃ t, Machine.exec c s = .next t ∧ P t := by
  have live : ∀ g : State → State, P (g s) → ∃ t, (Host.Outcome.next (s.live g) : Result) = .next t ∧ P t :=
    fun g hg => ⟨_, rfl, State.live_keeps hs hg⟩
  have decoded : ∀ g : State → State, P (g s) → ∃ t, (Host.Outcome.next (s.decoded g) : Result) = .next t ∧ P t :=
    fun g hg => ⟨_, rfl, State.decoded_keeps hs hg⟩
  have loaded : P s.openLoad := k.frame hs (State.openLoad_music s)
  cases c with
  | powerReset => exact ⟨_, rfl, k.powerReset hs⟩
  | resetRelease straps => exact ⟨_, rfl, k.resetRelease straps hs⟩
  | sync a => exact live _ (k.frame hs (State.takeSync_music s a))
  | data w => exact decoded _ (k.data w loaded)
  | chordHeader x => exact decoded _ (k.frame loaded (State.takeChordHeader_music _ x))
  | commandHeader v => exact decoded _ (k.frame loaded (State.takeHeader_music _ _ _))
  | fill => exact ⟨_, rfl, hs⟩
  | corruptedSync => exact decoded _ (k.frame hs rfl)
  | lostOnset => exact decoded _ (k.frame loaded (State.takeDamaged_music _ _))
  | damagedFrame => exact decoded _ (k.frame loaded (State.takeDamaged_music _ _))
  | onset o => exact decoded _ (k.onset o hs)
  | credit d v => exact live _ (k.credit d v hs)
  | chestSync d a => exact live _ (k.chestSync d a hs)
  | deviceTimeAdvance => exact ⟨_, rfl, k.endFrameTime hs⟩
  | lockLoss => exact live _ (k.takeOwn .lockLoss hs)
  | chordMessage => exact live _ (k.takeOwn .chordMessage hs)
  | load => exact live _ (k.takeOwn .load hs)
  | read => exact live _ (k.takeOwn .read hs)
  | hymn => exact live _ (k.takeOwn .hymn hs)
  | start => exact live _ (k.takeOwn .start hs)
  | stop => exact live _ (k.takeOwn .stop hs)
  | gate => exact live _ (k.takeOwn .gate hs)
  | flush => exact live _ (k.takeOwn .flush hs)
  | clear => exact live _ (k.takeOwn .clear hs)
  | listenExpiry r => exact live _ (k.takeOwn (.listenExpiry r) hs)
  | silenceFall => exact live _ (k.takeOwn .silenceFall hs)
  | freezeEntry => exact live _ (k.takeOwn .freezeEntry hs)
  | starvationEntry => exact live _ (k.takeOwn .starvationEntry hs)
  | arm => exact live _ (k.takeOwn .arm hs)
  | gateSoundExpiry => exact live _ (k.takeOwn .gateSoundExpiry hs)
  | gateDropExpiry => exact live _ (k.takeOwn .gateDropExpiry hs)
  | fermataExpiry => exact live _ (k.takeOwn .fermataExpiry hs)
  | release d => exact live _ (k.takeOwn (.release d) hs)
  | heldReleaseOffer d => exact live _ (k.takeOwn (.heldReleaseOffer d) hs)
  | allOffEntry d => exact live _ (k.takeOwn (.allOffEntry d) hs)
  | wordLeaving d => exact live _ (k.takeOwn (.wordLeaving d) hs)
  | stall d => exact live _ (k.takeOwn (.stall d) hs)
  | receiveLockLoss d => exact live _ (k.takeOwn (.receiveLockLoss d) hs)
  | beacon => exact live _ (k.takeOwn .beacon hs)
  | responseComplete => exact live _ (k.takeOwn .responseComplete hs)

/-- A `Kept` that does not read the queue survives every step (log 1). -/
theorem step {s t : State} (queue : ∀ (u : State) (rest : List Instr), P u → P { u with pending := rest }) (hs : P s)
    (h : Machine.step s = .next t) : P t := by
  unfold Machine.step at h
  split at h
  · injection h with h
    exact h ▸ hs
  · next c rest _ =>
    obtain ⟨u, answers, hu⟩ := k.exec c (queue s rest hs)
    rw [h] at answers
    injection answers with same
    exact same ▸ hu

end Kept
end Sys2Proof.Machine

/-! The invariants of ports, clock and records (O57, O58, O59), act by act, and what every command leaves alone (O2). -/

namespace Sys2Proof.Machine

-- One proof at a time, for the memory limit of the check.
set_option Elab.async false

/-! ### Reading a port, its held release and its record after an act -/

theorem State.setChest_ports (s : State) (d e : Division) (p : Port) (h : Option RowNumber) (x : DivisionRecord) :
    (s.setChest d p h x).ports[e] = if d = e then p else s.ports[e] :=
  State.setPort_get s d e p

theorem State.setChest_held (s : State) (d e : Division) (p : Port) (h : Option RowNumber) (x : DivisionRecord) :
    (s.setChest d p h x).held[e] = if d = e then h else s.held[e] :=
  State.setHeld_get s d e h

theorem State.setChest_divisions (s : State) (d e : Division) (p : Port) (h : Option RowNumber) (x : DivisionRecord) :
    (s.setChest d p h x).divisions[e] = if d = e then x else s.divisions[e] :=
  State.setDivision_get s d e x

theorem ofFn_get {α : Type} {n : Nat} (f : Fin n → α) (d : Fin n) : (Vector.ofFn f)[d] = f d := by
  rw [Fin.getElem_fin, Vector.getElem_ofFn]

/-! ### Ports (O57) -/

theorem State.setChest_portsSound {s : State} {d : Division} {p : Port} {h : Option RowNumber} {x : DivisionRecord}
    (hs : s.PortsSound) (sound : s.ports[d].Sound s.held[d] → p.Sound h) : (s.setChest d p h x).PortsSound := by
  intro e
  rw [State.setChest_ports, State.setChest_held]
  split
  · exact sound (hs d)
  · exact hs e

theorem State.hold_portsSound {s : State} {d : Division} {r : RowNumber} (hs : s.PortsSound) :
    (s.hold d r).PortsSound := by
  obtain ⟨hcredits, hqueue, -, -, -, -⟩ := hs d
  have waits : Port.Sound { s.ports[d] with
      state := .waiting, waitingSince := some s.deviceTime, offerDue := false } (some r) :=
    ⟨hcredits, hqueue, by simp, by simp, by simp, by simp⟩
  intro e
  rw [State.hold, State.setPort_get]
  have held : (s.hold d r).held[e] = if d = e then some r else s.held[e] := State.setHeld_get s d e _
  rw [State.hold] at held
  rw [held]
  split
  · exact waits
  · exact hs e

theorem State.PortsSound.congr {s t : State} (hs : s.PortsSound) (ports : t.ports = s.ports) (held : t.held = s.held) :
    t.PortsSound := by
  intro d
  rw [ports, held]
  exact hs d

theorem replicate_get {α : Type} {n : Nat} (x : α) (i : Fin n) : (Vector.replicate n x)[i] = x := by
  rw [Fin.getElem_fin, Vector.getElem_replicate]

theorem State.reset_portsSound : State.reset.PortsSound := by
  intro d
  have port : State.reset.ports[d] = Port.reset := replicate_get _ d
  have held : State.reset.held[d] = none := replicate_get _ d
  rw [port, held]
  decide

theorem portsSound_kept : Kept State.PortsSound where
  frame hs music := hs.congr (congrArg Music.ports music) (congrArg Music.held music)
  follower hs _ _ := hs
  row hs _ := hs
  opened hs _ := hs
  dropped hs _ := hs
  expired hs _ := hs
  disarmed _ hs := hs
  hymn hs _ _ := hs
  stopped hs _ := hs
  filled _ _ _ _ _ _ hs _ _ _ := hs
  chest hs sound _ _ := State.setChest_portsSound hs sound
  released {_ _ _ _ x} hs _ sound _ := State.setChest_portsSound (x := x) hs sound
  hold hs _ _ := State.hold_portsSound hs
  tables hs _ := hs
  advance hs d := by
    rw [State.advance, ofFn_get]
    exact hs d
  heldSlot hs d := by
    rw [State.heldSlot, ofFn_get]
    exact hs d
  powerReset _ := State.reset_portsSound
  resetEnds _ hs := hs

/-- Settles O57: every act on a port keeps it sound with its held release. -/
theorem portsStaySound : Obligations.PortsStaySound :=
  fun _ _ sound => portsSound_kept.step (fun _ _ hs => hs) sound

/-! ### The clock and the tables (O58) -/

theorem State.ClockSound.congr {s t : State} (hs : s.ClockSound) (follower : t.follower = s.follower)
    (tables : t.tables = s.tables) : t.ClockSound := by
  rw [State.ClockSound, follower, tables]
  exact hs

theorem Tables.reset_valid : Tables.reset.Valid := by
  have registration : ∀ d, (RegistrationRow.default d).valid = true := by
    intro d
    unfold RegistrationRow.default
    split <;> decide
  refine ⟨by decide, fun i => ?_, fun i => ?_, fun i => ?_, fun i => ?_⟩
  · rw [Tables.reset, replicate_get]
    decide
  · rw [Tables.reset, replicate_get]
    decide
  · rw [Tables.reset, replicate_get]
    decide
  · have row : Tables.reset.registration[i] = RegistrationRow.default (i.val % 4) := ofFn_get _ i
    rw [row]
    exact registration _

theorem State.reset_clockSound : State.reset.ClockSound :=
  ⟨by decide, Tables.reset_valid⟩

theorem clockSound_kept : Kept State.ClockSound where
  frame hs music := hs.congr (congrArg Music.follower music) (congrArg Music.tables music)
  follower hs sound _ := ⟨sound hs, hs.2⟩
  row hs _ := hs
  opened hs _ := hs
  dropped hs _ := hs
  expired hs _ := hs
  disarmed _ hs := hs
  hymn hs sound _ := ⟨sound hs, hs.2⟩
  stopped hs _ := ⟨Follower.stop_sound hs.1, hs.2⟩
  filled _ _ _ _ _ _ hs _ _ _ := hs
  chest hs _ _ _ := hs
  released hs _ _ _ := ⟨Follower.noteReleased_sound hs.1 _, hs.2⟩
  hold hs _ _ := hs
  tables hs valid := ⟨hs.1, valid hs.2⟩
  advance hs := ⟨Follower.aged_sound hs.1, hs.2⟩
  heldSlot hs := hs
  powerReset _ := State.reset_clockSound
  resetEnds _ hs := hs

/-- Settles O58: every record of the follower that an event makes is sound, every stored row is valid. -/
theorem clockStaysSound : Obligations.ClockStaysSound :=
  fun _ _ sound => clockSound_kept.step (fun _ _ hs => hs) sound

/-! ### Division records (O59) -/

/-- A new entry is silent, the old one, or a pitch code 2..62 (R126, R132). -/
theorem newEntry_sound {row : RegistrationRow} {v : Voice} {code : Value6} {old : Option Value6}
    (sound : EntrySound old) : EntrySound (newEntry row v code old) := by
  intro c hc
  unfold newEntry at hc
  split at hc
  · cases hc
  · split at hc
    · cases hc
    · next notSilent =>
      split at hc
      · exact sound c hc
      · next notTie =>
        obtain rfl := Option.some.inj hc
        have := code.isLt
        bv_omega

theorem applySteps_sound (row : RegistrationRow) (low high : Nat) (tr : Int) (set : BitVec 4) (codes : Voices Value6)
    {old : DivisionRecord} (sound : old.Sound) : (applySteps row low high tr set codes old).record.Sound := by
  obtain ⟨-, hsoprano, halto, htenor, hbass, -⟩ := sound
  exact ⟨soundingKeys_applySteps_length_le row low high tr set codes old, newEntry_sound hsoprano,
    newEntry_sound halto, newEntry_sound htenor, newEntry_sound hbass, nofun⟩

theorem DivisionRecord.silent_sound : DivisionRecord.silent.Sound := by
  have silentKeys : DivisionRecord.silent.soundingKeys = [] := by
    rw [List.eq_nil_iff_forall_not_mem]
    intro k sounding
    exact DivisionRecord.mem_soundingKeys.mp sounding (replicate_get _ k)
  exact ⟨by simp [silentKeys], nofun, nofun, nofun, nofun, fun _ => rfl⟩

theorem State.setChest_recordsSound {s : State} {d : Division} {p : Port} {h : Option RowNumber} {x : DivisionRecord}
    (hs : s.RecordsSound) (sound : x.Sound) : (s.setChest d p h x).RecordsSound := by
  intro e
  rw [State.setChest_divisions]
  split
  · exact sound
  · exact hs e

theorem State.reset_recordsSound : State.reset.RecordsSound := by
  intro d
  have record : State.reset.divisions[d] = DivisionRecord.silent := replicate_get _ d
  rw [record]
  exact DivisionRecord.silent_sound

theorem recordsSound_kept : Kept State.RecordsSound where
  frame hs music d := by
    have same := congrArg Music.divisions music
    dsimp only [State.music] at same
    rw [same]
    exact hs d
  follower hs _ _ := hs
  row hs _ := hs
  opened hs _ := hs
  dropped hs _ := hs
  expired hs _ := hs
  disarmed _ hs := hs
  hymn hs _ _ := hs
  stopped hs _ := hs
  filled _ _ _ _ _ _ hs _ _ _ := hs
  chest {s d p h x} hs _ _ hx := by
    refine State.setChest_recordsSound hs ?_
    rcases hx with rfl | rfl
    · exact hs d
    · exact DivisionRecord.silent_sound
  released {s d r p x} hs _ _ hx := by
    refine State.setChest_recordsSound (p := p) (h := none) hs ?_
    rcases hx with rfl | rfl
    · exact hs d
    · exact applySteps_sound _ _ _ _ _ _ (hs d)
  hold hs _ _ := hs
  tables hs _ := hs
  advance hs := hs
  heldSlot hs := hs
  powerReset _ := State.reset_recordsSound
  resetEnds _ hs := hs

/-- Settles O59: a record is replaced by what an application gives, or by silence. -/
theorem recordsStaySound : Obligations.RecordsStaySound :=
  fun _ _ sound => recordsSound_kept.step (fun _ _ hs => hs) sound

/-! ### Reset, time and the queue (O2) -/

/-- What reads reset, time and the queue alone, every own event keeps. -/
theorem keptByOwn_of_rest {P : State → Prop} (h : ∀ {s t : State}, P s → t.resetHeld = s.resetHeld →
    t.deviceTime = s.deviceTime → t.pending = s.pending → P t) : KeptByOwn P where
  frame hs music := h hs (congrArg Music.resetHeld music) (congrArg Music.deviceTime music)
    (congrArg Music.pending music)
  follower := fun hs _ _ => h hs rfl rfl rfl
  row := fun hs _ => h hs rfl rfl rfl
  opened := fun hs _ => h hs rfl rfl rfl
  dropped := fun hs _ => h hs rfl rfl rfl
  expired := fun hs _ => h hs rfl rfl rfl
  disarmed := fun _ hs => h hs rfl rfl rfl
  hymn := fun hs _ _ => h hs rfl rfl rfl
  stopped := fun hs _ => h hs rfl rfl rfl
  filled := fun _ _ _ _ _ _ hs _ _ _ => h hs rfl rfl rfl
  chest := fun hs _ _ _ => h hs rfl rfl rfl
  released := fun hs _ _ _ => h hs rfl rfl rfl
  hold := fun hs _ _ => h hs rfl rfl rfl

theorem running_keptByOwn : KeptByOwn State.Running :=
  keptByOwn_of_rest fun running reset _ _ => reset.trans running

theorem deviceTime_keptByOwn (now : Time) : KeptByOwn fun s => s.deviceTime = now :=
  keptByOwn_of_rest fun same _ time _ => time.trans same

theorem pending_kept (queue : List Instr) : Kept fun s => s.pending = queue where
  toKeptByOwn := keptByOwn_of_rest fun same _ _ pending => pending.trans same
  tables hs _ := hs
  advance hs := hs
  heldSlot hs := hs
  powerReset hs := hs
  resetEnds _ hs := hs

/-- Settles O2: no act stops the device, and none touches the queue. -/
theorem everyCommandAnswersNext : Obligations.EveryCommandAnswersNext :=
  fun c s => (pending_kept s.pending).exec c rfl

end Sys2Proof.Machine

/-!
The agreement of the Cue Table, its list, the marks and the held releases (O60): the invariant without the ports, which
stand in O57, act by act.
-/

namespace Sys2Proof.Machine

-- One proof at a time, for the memory limit of the check.
set_option Elab.async false

/-! ### Lists -/

/-- What is found in a list is found when another element leaves it. -/
theorem find?_erase_of_ne {α : Type} [DecidableEq α] {p : α → Bool} {l : List α} {q r : α} (found : l.find? p = some q)
    (other : q ≠ r) : (l.erase r).find? p = some q := by
  induction l with
  | nil => cases found
  | cons a l ih =>
    rcases hp : p a with _ | _
    · rw [List.find?_cons_of_neg (by simp [hp])] at found
      rw [List.erase_cons]
      split
      · exact found
      · rw [List.find?_cons_of_neg (by simp [hp])]
        exact ih found
    · rw [List.find?_cons_of_pos hp] at found
      obtain rfl := Option.some.inj found
      rw [List.erase_cons, if_neg (by simpa using other), List.find?_cons_of_pos hp]

/-- Whatever stands before what is found does not fit. -/
theorem pairwise_of_find? {α : Type} {p : α → Bool} {l : List α} {r : α} (nodup : l.Nodup) (found : l.find? p = some r) :
    l.Pairwise fun a b => b = r → p a = false := by
  induction l with
  | nil => exact List.Pairwise.nil
  | cons a l ih =>
    obtain ⟨fresh, nodup⟩ := List.nodup_cons.mp nodup
    rcases hp : p a with _ | _
    · rw [List.find?_cons_of_neg (by simp [hp])] at found
      exact List.pairwise_cons.mpr ⟨fun _ _ _ => hp, ih nodup found⟩
    · rw [List.find?_cons_of_pos hp] at found
      obtain rfl := Option.some.inj found
      have absent : ∀ b ∈ l, b ≠ a := fun b hb same => fresh (same ▸ hb)
      refine List.pairwise_cons.mpr ⟨fun b hb same => absurd same (absent b hb), ?_⟩
      exact List.pairwise_of_forall_mem_list fun _ _ b hb same => absurd same (absent b hb)

/-! ### The invariant without the ports -/

/-- The Cue Table, its list, the marks and the held releases agree. -/
structure State.TableSound (s : State) : Prop where
  list : s.ListSound
  positions : s.PositionsSound
  releases : s.ReleasesSound

/-- A row in another guise that keeps its place on the list and among the marks. -/
structure CueRow.Restands (c old : CueRow) : Prop where
  onList : c.rowState.onList = old.rowState.onList
  empty : c.rowState = .empty ↔ old.rowState = .empty
  position : c.position = old.position
  released : c.released = old.released
  gated : c.rowState = .gated → old.rowState = .gated
  marks : old.MarksSound → c.MarksSound

theorem CueRow.SameStanding.restands {c old : CueRow} (same : c.SameStanding old) : c.Restands old where
  onList := by rw [same.rowState]
  empty := by rw [same.rowState]
  position := same.position
  released := same.released
  gated := by rw [same.rowState]; exact id
  marks := by
    rintro ⟨fresh, partly, full, armed⟩
    have marks : c.marks = old.marks := by rw [CueRow.marks, CueRow.marks, same.released]
    rw [CueRow.MarksSound, same.rowState, marks]
    exact ⟨fresh, partly, full, fun h => (same.armed h).elim armed id⟩

theorem CueRow.restands_refl (c : CueRow) : c.Restands c :=
  ⟨rfl, Iff.rfl, rfl, rfl, id, id⟩

theorem CueRow.restands_opened {c : CueRow} (gated : c.rowState = .gated) : c.opened.Restands c where
  onList := by rw [gated]; rfl
  empty := by simp [gated, CueRow.opened]
  position := rfl
  released := rfl
  gated := by simp [CueRow.opened]
  marks := fun ⟨fresh, _⟩ => ⟨fun _ => fresh (Or.inr gated), nofun, nofun, nofun⟩

theorem CueRow.restands_disarmAfter (c : CueRow) (q : Nat) : (c.disarmAfter q).Restands c := by
  unfold CueRow.disarmAfter
  split
  · exact CueRow.SameStanding.restands ⟨rfl, rfl, rfl, nofun⟩
  · exact c.restands_refl

namespace State.TableSound

variable {s t : State} {d : Division} {r q : RowNumber}

/-! ### The list -/

theorem rol_nodup (hs : s.TableSound) : s.rol.Nodup :=
  hs.list.2.imp fun ascends same => by simp [same] at ascends

theorem mem_rol_of_earliest (h : s.earliestUnreleased d = some r) : r ∈ s.rol :=
  List.mem_of_find?_eq_some h

theorem onList_of_mem (hs : s.TableSound) (h : r ∈ s.rol) : s.cues[r].rowState.onList = true :=
  (hs.list.1 r).mp h

theorem not_mem_of_empty (hs : s.TableSound) (h : s.cues[r].rowState = .empty) : r ∉ s.rol := by
  intro mem
  have := hs.onList_of_mem mem
  rw [h] at this
  cases this

theorem not_mem_of_listen (hs : s.TableSound) (h : s.cues[r].rowState = .listen) : r ∉ s.rol := by
  intro mem
  have := hs.onList_of_mem mem
  rw [h] at this
  cases this

theorem ne_empty_of_mem (hs : s.TableSound) (h : r ∈ s.rol) : s.cues[r].rowState ≠ .empty :=
  fun empty => hs.not_mem_of_empty empty h

/-- A row that a division holds or is due is PENDING or RELEASING, without the division's mark. -/
theorem state_of_earliest (hs : s.TableSound) (h : s.earliestUnreleased d = some r) (notGated : s.cues[r].rowState ≠ .gated) :
    (s.cues[r].rowState = .pending ∨ s.cues[r].rowState = .releasing) ∧ s.cues[r].released[d] = false := by
  refine ⟨?_, by simpa using List.find?_some h⟩
  have := hs.onList_of_mem (mem_rol_of_earliest h)
  cases hst : s.cues[r].rowState <;> simp_all [RowState.onList]

/-! ### Rows that keep their place, and the follower -/

/-- Rows that keep their positions, some of them EMPTY now: nothing about positions is lost (R33, R49). -/
theorem positions_of_occupied (hs : s.PositionsSound) (position : ∀ q : RowNumber, t.cues[q].position = s.cues[q].position)
    (occupied : ∀ q : RowNumber, t.cues[q].rowState ≠ .empty → s.cues[q].rowState ≠ .empty)
    (highMark : t.highMark = s.highMark) (mode : t.follower.mode = .idle → s.follower.mode = .idle) : t.PositionsSound := by
  obtain ⟨high, distinct, idle⟩ := hs
  refine ⟨fun q h => ?_, fun a b ha hb same => ?_, fun h q => ?_⟩
  · rw [highMark, position]
    exact high q (occupied q h)
  · rw [position, position] at same
    exact distinct a b (occupied a ha) (occupied b hb) same
  · by_contra h'
    exact occupied q h' (idle (mode h) q)

theorem restand (hs : s.TableSound) (rows : ∀ q : RowNumber, t.cues[q].Restands s.cues[q]) (rol : t.rol = s.rol)
    (highMark : t.highMark = s.highMark) (held : t.held = s.held)
    (mode : t.follower.mode = .idle → s.follower.mode = .idle) : t.TableSound := by
  obtain ⟨⟨members, ascends⟩, positions, ⟨marks, order, holds⟩⟩ := hs
  refine ⟨⟨fun q => ?_, ?_⟩, positions_of_occupied positions (fun q => (rows q).position)
    (fun q => mt (rows q).empty.mpr) highMark mode, ⟨fun q => (rows q).marks (marks q), ?_, fun d q hq => ?_⟩⟩
  · rw [rol, (rows q).onList]
    exact members q
  · simpa only [rol, (rows _).position] using ascends
  · simpa only [rol, (rows _).released] using order
  · obtain ⟨earliest, notGated⟩ := holds d q (held ▸ hq)
    refine ⟨?_, mt (rows q).gated notGated⟩
    simpa only [State.earliestUnreleased, rol, (rows _).released] using earliest

theorem setRow (hs : s.TableSound) {c : CueRow} (row : c.Restands s.cues[r]) : (s.setRow r c).TableSound := by
  refine hs.restand (fun q => ?_) rfl rfl rfl id
  rw [State.setRow_get]
  split
  · next same => exact same ▸ row
  · exact CueRow.restands_refl _

/-! ### Rows that become EMPTY (R39, R41, R90) -/

section Emptied

theorem emptied_row (s : State) (r q : RowNumber) :
    (s.setRow r s.cues[r].emptied).cues[q] = if r = q then s.cues[r].emptied else s.cues[q] :=
  State.setRow_get s r q _

theorem emptied_position (s : State) (r q : RowNumber) :
    (s.setRow r s.cues[r].emptied).cues[q].position = s.cues[q].position := by
  rw [emptied_row]
  split
  · next same => subst same; rfl
  · rfl

theorem emptied_released (s : State) (r q : RowNumber) :
    (s.setRow r s.cues[r].emptied).cues[q].released = s.cues[q].released := by
  rw [emptied_row]
  split
  · next same => subst same; rfl
  · rfl

theorem emptied_occupied (h : (s.setRow r s.cues[r].emptied).cues[q].rowState ≠ .empty) : s.cues[q].rowState ≠ .empty := by
  rw [emptied_row] at h
  split at h
  · exact absurd rfl h
  · exact h

theorem emptied (hs : s.TableSound) (unheld : ∀ d : Division, s.held[d] ≠ some r) :
    State.TableSound { s.setRow r s.cues[r].emptied with rol := s.rol.erase r } := by
  have nodup := hs.rol_nodup
  obtain ⟨⟨members, ascends⟩, positions, ⟨marks, order, holds⟩⟩ := hs
  refine ⟨⟨fun q => ?members, ?ascends⟩, positions_of_occupied positions (emptied_position s r)
    (fun _ => emptied_occupied) rfl id, ⟨fun q => ?marks, ?order, fun d q hq => ?holds⟩⟩
  case members =>
    dsimp only
    rw [emptied_row, nodup.mem_erase_iff, members]
    split
    · next same => simp [same, CueRow.emptied, RowState.onList]
    · next other => simp [Ne.symm other]
  case ascends =>
    simp only [emptied_position]
    exact ascends.sublist List.erase_sublist
  case marks =>
    dsimp only
    rw [emptied_row]
    split
    · exact ⟨by simp [CueRow.emptied], nofun, nofun, nofun⟩
    · exact marks q
  case order =>
    simp only [emptied_released]
    exact order.sublist List.erase_sublist
  case holds =>
    obtain ⟨earliest, notGated⟩ := holds d q hq
    have other : q ≠ r := fun same => unheld d (same ▸ hq)
    refine ⟨?_, ?_⟩
    · simp only [State.earliestUnreleased, emptied_released]
      exact find?_erase_of_ne earliest other
    · dsimp only
      rw [emptied_row, if_neg (Ne.symm other)]
      exact notGated

end Emptied

theorem dropped (hs : s.TableSound) (gated : s.cues[r].rowState = .gated) :
    State.TableSound { s.setRow r s.cues[r].emptied with rol := s.rol.erase r } :=
  hs.emptied fun d held => (hs.releases.2.2 d r held).2 gated

theorem expired (hs : s.TableSound) (listen : s.cues[r].rowState = .listen) :
    (s.setRow r s.cues[r].emptied).TableSound := by
  have absent := hs.not_mem_of_listen listen
  have same := hs.emptied (r := r) fun d held => absent (mem_rol_of_earliest (hs.releases.2.2 d r held).1)
  rwa [List.erase_of_not_mem absent] at same

theorem stopped (hs : s.TableSound) (unheld : ∀ d : Division, s.held[d] = none) (f : Follower) :
    ((s.setFollower f).emptyTable).TableSound := by
  have row : ∀ q : RowNumber, ((s.setFollower f).emptyTable).cues[q] = s.cues[q].stopped := by
    intro q
    exact Vector.getElem_map _ _
  have empty : ∀ q : RowNumber, ((s.setFollower f).emptyTable).cues[q].rowState = .empty := by
    intro q
    rw [row, CueRow.stopped]
    split
    · assumption
    · rfl
  refine ⟨⟨fun q => ?_, List.Pairwise.nil⟩, ⟨fun q h => absurd (empty q) h, fun a b h => absurd (empty a) h,
    fun _ => empty⟩, ⟨fun q => ?_, List.Pairwise.nil, fun d q hq => ?_⟩⟩
  · rw [empty]
    exact ⟨nofun, nofun⟩
  · rw [row, CueRow.stopped]
    split
    · exact hs.releases.1 q
    · exact ⟨by simp [CueRow.emptied], nofun, nofun, nofun⟩
  · have none : ((s.setFollower f).emptyTable).held[d] = none := unheld d
    rw [none] at hq
    cases hq

end State.TableSound
end Sys2Proof.Machine

namespace Sys2Proof.Machine

-- One proof at a time, for the memory limit of the check.
set_option Elab.async false

/-! ### Counting release marks (R25, R114) -/

theorem countP_id_four (v : Vector Bool 4) :
    v.toList.countP id = v[0].toNat + v[1].toNat + v[2].toNat + v[3].toNat := by
  obtain ⟨⟨l⟩, hl⟩ := v
  obtain ⟨a, b, e, f, rfl⟩ : ∃ a b e f, l = [a, b, e, f] := by
    match l, hl with
    | [a, b, e, f], _ => exact ⟨a, b, e, f, rfl⟩
  cases a <;> cases b <;> cases e <;> cases f <;> rfl

theorem forall_division {p : Division → Prop} : (∀ d, p d) ↔ p 0 ∧ p 1 ∧ p 2 ∧ p 3 := by
  simp [Fin.forall_fin_succ]

theorem CueRow.marks_eq (c : CueRow) : c.marks
    = c.released[0].toNat + c.released[1].toNat + c.released[2].toNat + c.released[3].toNat :=
  countP_id_four c.released

theorem CueRow.marks_le (c : CueRow) : c.marks ≤ 4 := by
  have h0 := Bool.toNat_le c.released[0]
  have h1 := Bool.toNat_le c.released[1]
  have h2 := Bool.toNat_le c.released[2]
  have h3 := Bool.toNat_le c.released[3]
  rw [CueRow.marks_eq]
  omega

theorem CueRow.marks_eq_four {c : CueRow} : c.marks = 4 ↔ ∀ d : Division, c.released[d] = true := by
  have h0 := Bool.toNat_le c.released[0]
  have h1 := Bool.toNat_le c.released[1]
  have h2 := Bool.toNat_le c.released[2]
  have h3 := Bool.toNat_le c.released[3]
  have sum : c.marks = 4 ↔ c.released[0] = true ∧ c.released[1] = true ∧ c.released[2] = true ∧ c.released[3] = true := by
    simp only [CueRow.marks_eq, ← Bool.toNat_eq_one]
    omega
  exact sum.trans (forall_division (p := fun d => c.released[d] = true)).symm

theorem CueRow.marks_eq_zero {c : CueRow} : c.marks = 0 ↔ ∀ d : Division, c.released[d] = false := by
  have sum : c.marks = 0 ↔ c.released[0] = false ∧ c.released[1] = false ∧ c.released[2] = false
      ∧ c.released[3] = false := by
    simp only [CueRow.marks_eq, ← Bool.toNat_eq_zero]
    omega
  exact sum.trans (forall_division (p := fun d => c.released[d] = false)).symm

theorem CueRow.marks_pos {c : CueRow} {d : Division} (h : c.released[d] = true) : 0 < c.marks := by
  refine Nat.pos_of_ne_zero fun none => ?_
  rw [CueRow.marks_eq_zero.mp none d] at h
  cases h

/-! ### The row after a mark (R114) -/

namespace CueRow

variable {c : CueRow} {d e : Division}

theorem release_released_get : (c.release d).released[e] = if d = e then true else c.released[e] := by
  have set : (c.release d).released = c.released.set d true := rfl
  rw [set]
  simp [Vector.getElem_set, Fin.ext_iff]

theorem release_rowState : (c.release d).rowState
    = if ∀ e : Division, (c.release d).released[e] = true then .listen else .releasing := by
  have all : ((c.release d).released[0] && (c.release d).released[1] && (c.release d).released[2]
      && (c.release d).released[3]) = true ↔ ∀ e : Division, (c.release d).released[e] = true := by
    rw [Fin.forall_fin_succ, Fin.forall_fin_succ, Fin.forall_fin_succ, Fin.forall_fin_one]
    simp only [Bool.and_eq_true, and_assoc]
    rfl
  rw [← if_congr all rfl rfl]
  rfl

theorem release_marksSound (unarmed : c.armed.isSome = false) : (c.release d).MarksSound := by
  have marked : (c.release d).released[d] = true := by rw [release_released_get, if_pos rfl]
  have least := marks_pos marked
  rw [MarksSound, release_rowState]
  have armed : (c.release d).armed.isSome = false := unarmed
  split
  · next full => exact ⟨by simp, nofun, fun _ => marks_eq_four.mpr full, by simp [armed]⟩
  · next partly =>
    have most : (c.release d).marks ≠ 4 := mt marks_eq_four.mp partly
    have := (c.release d).marks_le
    exact ⟨by simp, fun _ => ⟨least, by omega⟩, nofun, by simp [armed]⟩

end CueRow

namespace State.TableSound

variable {s t : State} {d : Division} {r q : RowNumber}

/-! ### A hymn, a cue, a held release (R30, R51, R111) -/

theorem hymn (hs : s.TableSound) (idle : s.follower.mode = .idle) (f : Follower) :
    State.TableSound { s with follower := f, highMark := -1 } := by
  obtain ⟨list, ⟨-, -, empty⟩, releases⟩ := hs
  have allEmpty := empty idle
  exact ⟨list, ⟨fun q h => absurd (allEmpty q) h, fun a b h => absurd (allEmpty a) h, fun _ => allEmpty⟩, releases⟩

theorem hold (hs : s.TableSound) (earliest : s.earliestUnreleased d = some r) (notGated : s.cues[r].rowState ≠ .gated) :
    (s.hold d r).TableSound := by
  obtain ⟨list, positions, marks, order, holds⟩ := hs
  refine ⟨list, positions, marks, order, fun e q hq => ?_⟩
  have held : (s.hold d r).held[e] = if d = e then some r else s.held[e] := State.setHeld_get s d e _
  rw [held] at hq
  split at hq
  · next same =>
    obtain rfl := Option.some.inj hq
    exact same ▸ ⟨earliest, notGated⟩
  · exact holds e q hq

section Filled

/-- A row as a cue fills it (R25, R30): PENDING or GATED, without marks or arm time. -/
structure Fresh (c : CueRow) : Prop where
  state : c.rowState = .pending ∨ c.rowState = .gated
  unmarked : ∀ d : Division, c.released[d] = false
  unarmed : c.armed = none

theorem fresh_placedRow (p : Nat) (codes : Voices Value6) (set : BitVec 4) (syllable fermata : Bool) (gate : GateMode) :
    Fresh (placedRow p codes set syllable fermata gate) where
  state := by by_cases h : gate = .none <;> simp [placedRow, h]
  unmarked d := replicate_get _ d
  unarmed := rfl

theorem Fresh.onList {c : CueRow} (fresh : Fresh c) : c.rowState.onList = true := by
  rcases fresh.state with h | h <;> rw [h] <;> rfl

theorem Fresh.marksSound {c : CueRow} (fresh : Fresh c) : c.MarksSound := by
  have none : c.marks = 0 := CueRow.marks_eq_zero.mpr fresh.unmarked
  rcases fresh.state with h | h <;> simp [CueRow.MarksSound, h, none, fresh.unarmed]

variable {c : CueRow}

theorem fillRow_row (s : State) (r q : RowNumber) (c : CueRow) :
    (s.fillRow r c).cues[q] = if r = q then c else s.cues[q] :=
  State.setRow_get s r q c

/-- The rows already on the list are not the one that was EMPTY. -/
theorem fillRow_row_of_mem (absent : r ∉ s.rol) (mem : q ∈ s.rol) : (s.fillRow r c).cues[q] = s.cues[q] := by
  rw [fillRow_row, if_neg]
  rintro rfl
  exact absent mem

theorem filled_list (hs : s.TableSound) (fresh : Fresh c) (high : s.highMark < (c.position : Int)) (absent : r ∉ s.rol) :
    (s.fillRow r c).ListSound := by
  have occupied := fun q => hs.ne_empty_of_mem (r := q)
  obtain ⟨⟨members, ascends⟩, ⟨below, -, -⟩, -⟩ := hs
  have rol : (s.fillRow r c).rol = s.rol ++ [r] := rfl
  refine ⟨fun q => ?members, ?ascends⟩
  case members =>
    rw [rol, List.mem_append, List.mem_singleton, fillRow_row, members]
    split
    · next same => simp [same.symm, fresh.onList]
    · next other => simp [Ne.symm other]
  case ascends =>
    rw [rol, List.pairwise_append]
    refine ⟨?_, List.pairwise_singleton _ _, fun a ha b hb => ?_⟩
    · refine ascends.imp_of_mem fun ha hb h => ?_
      rwa [fillRow_row_of_mem absent ha, fillRow_row_of_mem absent hb]
    · obtain rfl := List.mem_singleton.mp hb
      rw [fillRow_row_of_mem absent ha, fillRow_row, if_pos rfl]
      have := below a (occupied a ha)
      omega

theorem filled_positions (hs : s.PositionsSound) (high : s.highMark < (c.position : Int)) (on : s.follower.mode ≠ .idle) :
    (s.fillRow r c).PositionsSound := by
  obtain ⟨below, distinct, -⟩ := hs
  have highMark : (s.fillRow r c).highMark = (c.position : Int) := rfl
  refine ⟨fun q h => ?_, fun a b ha hb same => ?_, fun h => absurd h on⟩
  · rw [highMark]
    rw [fillRow_row] at h ⊢
    split at h
    · next same => rw [if_pos same]
    · next other =>
      rw [if_neg other]
      exact (below q h).trans high.le
  · rw [fillRow_row] at ha hb
    rw [fillRow_row, fillRow_row] at same
    split at ha <;> split at hb
    · next hra hrb => exact hra.symm.trans hrb
    · next hra hrb =>
      rw [if_pos hra, if_neg hrb] at same
      have := below b hb
      omega
    · next hra hrb =>
      rw [if_neg hra, if_pos hrb] at same
      have := below a ha
      omega
    · next hra hrb =>
      rw [if_neg hra, if_neg hrb] at same
      exact distinct a b ha hb same

theorem filled_releases (hs : s.ReleasesSound) (fresh : Fresh c) (absent : r ∉ s.rol) : (s.fillRow r c).ReleasesSound := by
  obtain ⟨marks, order, holds⟩ := hs
  have rol : (s.fillRow r c).rol = s.rol ++ [r] := rfl
  refine ⟨fun q => ?marks, ?order, fun d q hq => ?holds⟩
  case marks =>
    rw [fillRow_row]
    split
    · exact fresh.marksSound
    · exact marks q
  case order =>
    rw [rol, List.pairwise_append]
    refine ⟨?_, List.pairwise_singleton _ _, fun a _ b hb d marked => ?_⟩
    · refine order.imp_of_mem fun ha hb h => ?_
      rwa [fillRow_row_of_mem absent ha, fillRow_row_of_mem absent hb]
    · obtain rfl := List.mem_singleton.mp hb
      rw [fillRow_row, if_pos rfl, fresh.unmarked d] at marked
      cases marked
  case holds =>
    obtain ⟨earliest, notGated⟩ := holds d q hq
    have same : s.rol.find? (fun x => !(s.fillRow r c).cues[x].released[d])
        = s.rol.find? (fun x => !s.cues[x].released[d]) :=
      List.find?_congr fun x hx => by rw [fillRow_row_of_mem absent hx]
    rw [State.earliestUnreleased, rol, List.find?_append, same, fillRow_row_of_mem absent (mem_rol_of_earliest earliest)]
    exact ⟨Option.or_eq_some_iff.mpr (Or.inl earliest), notGated⟩

theorem filled (hs : s.TableSound) (p : Nat) (codes : Voices Value6) (set : BitVec 4) (syllable fermata : Bool)
    (gate : GateMode) (high : s.highMark < (p : Int)) (empty : s.cues[r].rowState = .empty)
    (on : s.follower.mode ≠ .idle) : (s.fillRow r (placedRow p codes set syllable fermata gate)).TableSound := by
  have absent := hs.not_mem_of_empty empty
  have fresh := fresh_placedRow p codes set syllable fermata gate
  exact ⟨filled_list hs fresh high absent, filled_positions hs.positions high on,
    filled_releases hs.releases fresh absent⟩

end Filled

/-! ### A row marked for a division that holds nothing any more (R112 to R115) -/

section Released

variable {p : Port} {x : DivisionRecord} {e : Division}

theorem released_row (s : State) (d : Division) (r q : RowNumber) (p : Port) (x : DivisionRecord) :
    (s.released d r p x).cues[q] = if r = q then s.cues[r].release d else s.cues[q] :=
  State.setRow_get s r q _

theorem released_rol : (s.released d r p x).rol
    = if (s.cues[r].release d).rowState = .listen then s.rol.erase r else s.rol :=
  rfl

theorem released_rol_sublist : (s.released d r p x).rol.Sublist s.rol := by
  rw [released_rol]
  split
  · exact List.erase_sublist
  · exact List.Sublist.refl _

theorem released_held : (s.released d r p x).held[e] = if d = e then none else s.held[e] :=
  State.setHeld_get s d e none

theorem released_position (q : RowNumber) : (s.released d r p x).cues[q].position = s.cues[q].position := by
  rw [released_row]
  split
  · next same => subst same; rfl
  · rfl

theorem released_mark : (s.released d r p x).cues[q].released[e]
    = if r = q ∧ d = e then true else s.cues[q].released[e] := by
  rw [released_row]
  by_cases same : r = q
  · subst same
    simp only [if_true, true_and]
    exact CueRow.release_released_get
  · simp only [same, false_and, if_false]

theorem released_list (hs : s.TableSound) (mem : r ∈ s.rol) : (s.released d r p x).ListSound := by
  have nodup := hs.rol_nodup
  have onList := hs.onList_of_mem mem
  obtain ⟨⟨members, ascends⟩, -, -⟩ := hs
  have state := CueRow.release_rowState (c := s.cues[r]) (d := d)
  refine ⟨fun q => ?members, ?ascends⟩
  case members =>
    rw [released_rol, released_row]
    split at state
    · rw [if_pos state, nodup.mem_erase_iff, members]
      split
      · next same =>
        rw [state]
        simp [same, RowState.onList]
      · next other => simp [Ne.symm other]
    · rw [if_neg (by rw [state]; nofun), members]
      split
      · next same =>
        subst same
        rw [state]
        exact ⟨fun _ => rfl, fun _ => onList⟩
      · rfl
  case ascends =>
    simp only [released_position]
    exact ascends.sublist released_rol_sublist

/-- A release held by another division still waits for the earliest row that lacks its mark. -/
theorem released_holds (other : d ≠ e) (found : s.earliestUnreleased e = some q) (stands : s.cues[q].rowState ≠ .gated) :
    (s.released d r p x).earliestUnreleased e = some q ∧ (s.released d r p x).cues[q].rowState ≠ .gated := by
  have state := CueRow.release_rowState (c := s.cues[r]) (d := d)
  have same : (fun y : RowNumber => !(s.released d r p x).cues[y].released[e]) = fun y => !s.cues[y].released[e] := by
    funext y
    rw [released_mark, if_neg fun h => other h.2]
  refine ⟨?found, ?stands⟩
  case found =>
    rw [State.earliestUnreleased, same, released_rol]
    split at state
    · next full =>
      rw [if_pos state]
      refine find?_erase_of_ne found ?_
      rintro rfl
      have unmarked : s.cues[q].released[e] = false := by simpa using List.find?_some found
      have marked := full e
      rw [CueRow.release_released_get, if_neg other, unmarked] at marked
      cases marked
    · rw [if_neg (by rw [state]; nofun)]
      exact found
  case stands =>
    rw [released_row]
    split
    · rw [state]
      split <;> simp
    · exact stands

theorem released_releases (hs : s.TableSound) (earliest : s.earliestUnreleased d = some r)
    (notGated : s.cues[r].rowState ≠ .gated) : (s.released d r p x).ReleasesSound := by
  have before := pairwise_of_find? hs.rol_nodup earliest
  obtain ⟨-, -, marks, order, holds⟩ := hs
  refine ⟨fun q => ?marks, ?order, fun e q hq => ?holds⟩
  case marks =>
    rw [released_row]
    split
    · obtain ⟨-, -, -, armed⟩ := marks r
      exact CueRow.release_marksSound (Bool.eq_false_iff.mpr fun h => notGated (armed h))
    · exact marks q
  case order =>
    refine ((order.and before).sublist released_rol_sublist).imp fun ⟨ordered, found⟩ e marked => ?_
    rw [released_mark] at marked ⊢
    split at marked
    · next new =>
      split
      · rfl
      · exact new.2 ▸ (by simpa using found new.1.symm)
    · split
      · rfl
      · exact ordered e marked
  case holds =>
    rw [released_held] at hq
    split at hq
    · cases hq
    · next other =>
      obtain ⟨found, stands⟩ := holds e q hq
      exact released_holds other found stands

theorem released (hs : s.TableSound) (earliest : s.earliestUnreleased d = some r)
    (notGated : s.cues[r].rowState ≠ .gated) (p : Port) (x : DivisionRecord) : (s.released d r p x).TableSound := by
  have mem := mem_rol_of_earliest earliest
  have occupied : ∀ q : RowNumber, (s.released d r p x).cues[q].rowState ≠ .empty → s.cues[q].rowState ≠ .empty := by
    intro q h
    rw [released_row] at h
    split at h
    · next same => exact same ▸ hs.ne_empty_of_mem mem
    · exact h
  exact ⟨released_list hs mem, positions_of_occupied hs.positions released_position occupied rfl id,
    released_releases hs earliest notGated⟩

end Released

end State.TableSound

/-! ### The invariant (O60) -/

theorem State.reset_tableSound : State.reset.TableSound := by
  have row : ∀ q : RowNumber, State.reset.cues[q] = CueRow.reset := fun q => replicate_get _ q
  have held : ∀ d : Division, State.reset.held[d] = none := fun d => replicate_get _ d
  refine ⟨⟨fun q => ?_, List.Pairwise.nil⟩, ⟨fun q h => ?_, fun a b h => ?_, fun _ q => ?_⟩,
    ⟨fun q => ?_, List.Pairwise.nil, fun d q hq => ?_⟩⟩
  · rw [row]
    exact ⟨nofun, nofun⟩
  · exact absurd (by rw [row]; rfl) h
  · exact absurd (by rw [row]; rfl) h
  · rw [row]
    rfl
  · rw [row]
    decide
  · rw [held] at hq
    cases hq

/-- A row that is due or held is its division's earliest unreleased row, and not GATED (R104, R106). -/
theorem State.TableSound.earliest_of_due {s : State} {d : Division} {r : RowNumber} (hs : s.TableSound)
    (due : s.releaseRow d = some r ∨ s.held[d] = some r) :
    s.earliestUnreleased d = some r ∧ s.cues[r].rowState ≠ .gated := by
  rcases due with due | held
  · obtain ⟨-, -, earliest, notGated, -⟩ := State.dueRow_eq_some_iff.mp (State.releaseRow_eq_some_iff.mp due).2
    exact ⟨earliest, notGated⟩
  · exact hs.releases.2.2 d r held

theorem tableSound_kept : Kept State.TableSound where
  frame {s t} hs music := by
    have cues : t.cues = s.cues := congrArg Music.cues music
    have follower : t.follower = s.follower := congrArg Music.follower music
    exact hs.restand (fun q => cues ▸ CueRow.restands_refl _) (congrArg Music.rol music) (congrArg Music.highMark music)
      (congrArg Music.held music) (follower ▸ id)
  follower hs _ mode := hs.restand (fun _ => CueRow.restands_refl _) rfl rfl rfl mode
  row hs same := hs.setRow same.restands
  opened hs gated := hs.setRow (CueRow.restands_opened gated)
  dropped hs gated := hs.dropped gated
  expired hs listen := hs.expired listen
  disarmed {s} q hs := by
    refine hs.restand (fun r => ?_) rfl rfl rfl id
    have row : (s.cues.map fun c => c.disarmAfter q)[r] = s.cues[r].disarmAfter q := Vector.getElem_map _ _
    rw [row]
    exact CueRow.restands_disarmAfter _ q
  hymn hs _ idle := hs.hymn idle _
  stopped hs unheld := hs.stopped unheld _
  filled q codes set syllable fermata gate hs high empty on := hs.filled q codes set syllable fermata gate high empty on
  chest {s d p h x} hs _ hh _ := by
    have held : ∀ e : Division, (s.setChest d p h x).held[e] = if d = e then h else s.held[e] :=
      fun e => s.setChest_held d e p h x
    obtain ⟨list, positions, marks, order, holds⟩ := hs
    refine ⟨list, positions, marks, order, fun e q hq => ?_⟩
    rw [held] at hq
    split at hq
    · next same =>
      rcases hh with rfl | rfl
      · exact same ▸ holds d q hq
      · cases hq
    · exact holds e q hq
  released hs due _ _ := hs.released (hs.earliest_of_due due).1 (hs.earliest_of_due due).2 _ _
  hold hs due _ := hs.hold (hs.earliest_of_due (Or.inl due)).1 (hs.earliest_of_due (Or.inl due)).2
  tables hs _ := hs.restand (fun _ => CueRow.restands_refl _) rfl rfl rfl id
  advance hs := hs.restand (fun _ => CueRow.restands_refl _) rfl rfl rfl id
  heldSlot hs := hs.restand (fun _ => CueRow.restands_refl _) rfl rfl rfl id
  powerReset _ := State.reset_tableSound.restand (fun _ => CueRow.restands_refl _) rfl rfl rfl id
  resetEnds _ hs := hs.restand (fun _ => CueRow.restands_refl _) rfl rfl rfl id

/-- Settles O60: every act keeps the table, its list and its marks in agreement, and the ports by O57. -/
theorem cuesStaySound : Obligations.CuesStaySound := by
  rintro s t ⟨list, positions, releases, ports⟩ h
  have table := tableSound_kept.step
    (fun _ _ hs => hs.restand (fun _ => CueRow.restands_refl _) rfl rfl rfl id) ⟨list, positions, releases⟩ h
  exact ⟨table.list, table.positions, table.releases, portsStaySound s t ports h⟩

/-- Settles O56: reset has the four invariants. -/
theorem invariantsAtReset : Obligations.InvariantsAtReset :=
  ⟨State.reset_portsSound, State.reset_clockSound, State.reset_recordsSound, State.reset_tableSound.list,
    State.reset_tableSound.positions, State.reset_tableSound.releases, State.reset_portsSound⟩

end Sys2Proof.Machine

/-! Steps, reset, and what acts while RESET_n is low (00, 01; O1, O3, O4). -/

namespace Sys2Proof.Machine

-- One proof at a time, for the memory limit of the check.
set_option Elab.async false

/-- Settles O1: the front of the queue is taken, the empty queue idles. -/
theorem stepRunsFrontCommand : Obligations.StepRunsFrontCommand := by
  refine ⟨fun _ _ _ => rfl, fun s idle => ?_⟩
  rw [step, idle]

/-- Settles O3: reset field by field. -/
theorem powerResetState : Obligations.PowerResetState := by
  refine ⟨fun _ => rfl, rfl, rfl, fun a => replicate_get _ a, rfl, fun r => ⟨replicate_get _ r, replicate_get _ r⟩,
    rfl, rfl, ?follower, fun d => ?division, rfl, rfl, fun c => replicate_get _ c, rfl,
    rfl, fun i => replicate_get _ i, fun i => replicate_get _ i, fun i => replicate_get _ i, fun set => ?registration⟩
  case follower => decide
  case division =>
    have held : State.reset.held[d] = none := replicate_get _ d
    have record : State.reset.divisions[d] = DivisionRecord.silent := replicate_get _ d
    have port : State.reset.ports[d] = Port.reset := replicate_get _ d
    rw [held, record, port]
    exact ⟨rfl, rfl, rfl, fun k => replicate_get _ k, rfl, rfl, rfl, rfl, rfl, rfl, rfl, fun a => replicate_get _ a⟩
  case registration =>
    have row : ∀ d : Division, State.reset.tables.registration[registrationIndex set d]
        = RegistrationRow.default d.val := by
      intro d
      have index : (registrationIndex set d).val % 4 = d.val := by
        have := d.isLt
        simp only [registrationIndex]
        omega
      have default : State.reset.tables.registration[registrationIndex set d]
          = RegistrationRow.default ((registrationIndex set d).val % 4) := ofFn_get _ _
      rw [default, index]
    exact ⟨row 0, row 1, row 2, row 3⟩

/-! ### A device held in reset (R1, R11, log 2) -/

theorem State.live_of_held {s : State} (held : s.resetHeld = true) (g : State → State) : s.live g = s :=
  if_pos held

theorem State.decoded_of_held {s : State} (held : s.resetHeld = true) (g : State → State) : s.decoded g = s :=
  if_pos (by rw [held]; rfl)

/-- A command changes nothing where its event changes nothing. -/
theorem next_live_of_stays {s : State} {g : State → State} (stays : g s = s) :
    (Host.Outcome.next (s.live g) : Result) = .next s :=
  congrArg _ (State.live_keeps (P := (· = s)) rfl stays)

/-- In reset every command but the three that pass it leaves the state as it is. -/
theorem exec_of_held {s : State} (held : s.resetHeld = true) {c : Instr} (reset : c ≠ .powerReset)
    (release : ∀ straps, c ≠ .resetRelease straps) (advance : c ≠ .deviceTimeAdvance) : exec c s = .next s := by
  have decoded : ∀ g : State → State, (Host.Outcome.next (s.decoded g) : Result) = .next s :=
    fun g => congrArg _ (State.decoded_of_held held g)
  have live : ∀ g : State → State, (Host.Outcome.next (s.live g) : Result) = .next s :=
    fun g => congrArg _ (State.live_of_held held g)
  cases c with
  | powerReset => exact absurd rfl reset
  | resetRelease straps => exact absurd rfl (release straps)
  | deviceTimeAdvance => exact absurd rfl advance
  | fill => rfl
  | data _ => exact decoded _
  | chordHeader _ => exact decoded _
  | commandHeader _ => exact decoded _
  | corruptedSync => exact decoded _
  | lostOnset => exact decoded _
  | damagedFrame => exact decoded _
  | onset _ => exact decoded _
  | _ => exact live _

/-! ### Four divisions in turn -/

/-- What one division has at its chest: its port, its held release and its record. -/
structure Chest where
  port : Port
  held : Option RowNumber
  record : DivisionRecord

def State.chest (s : State) (d : Division) : Chest := ⟨s.ports[d], s.held[d], s.divisions[d]⟩

def State.putChest (s : State) (d : Division) (c : Chest) : State := s.setChest d c.port c.held c.record

theorem State.chest_putChest (s : State) (d e : Division) (c : Chest) :
    (s.putChest d c).chest e = if d = e then c else s.chest e := by
  rw [State.chest, State.putChest, State.setChest_ports, State.setChest_held, State.setChest_divisions]
  split <;> rfl

/-- Vectors over the divisions, written at each division in turn. -/
theorem set_four {α : Type} (v : Vector α 4) (f : Division → α) :
    (((v.set 0 (f 0)).set 1 (f 1)).set 2 (f 2)).set 3 (f 3) = Vector.ofFn f := by
  refine ext_divisions _ _ fun d => ?_
  rw [ofFn_get]
  fin_cases d <;> simp

/-- An operation on each chest, taken in turn, is taken at the four of them at once. -/
theorem forDivisions_chest {g : Division → State → State} {f : Division → Chest → Chest}
    (hg : ∀ d s, g d s = s.putChest d (f d (s.chest d))) (s : State) : forDivisions g s = { s with
      ports := Vector.ofFn fun d => (f d (s.chest d)).port
      held := Vector.ofFn fun d => (f d (s.chest d)).held
      divisions := Vector.ofFn fun d => (f d (s.chest d)).record } := by
  have turns : forDivisions g s = (((s.putChest 0 (f 0 (s.chest 0))).putChest 1 (f 1 (s.chest 1))).putChest 2
      (f 2 (s.chest 2))).putChest 3 (f 3 (s.chest 3)) := by
    simp only [forDivisions, hg, State.chest_putChest]
    rfl
  rw [turns, ← set_four, ← set_four, ← set_four]
  rfl

theorem State.ofFn_ports (s : State) : (Vector.ofFn fun d : Division => s.ports[d]) = s.ports :=
  ext_divisions _ _ fun d => ofFn_get _ d

theorem State.ofFn_held (s : State) : (Vector.ofFn fun d : Division => s.held[d]) = s.held :=
  ext_divisions _ _ fun d => ofFn_get _ d

theorem State.ofFn_divisions (s : State) : (Vector.ofFn fun d : Division => s.divisions[d]) = s.divisions :=
  ext_divisions _ _ fun d => ofFn_get _ d

/-- An operation on each port, taken in turn. -/
theorem forDivisions_port {g : Division → State → State} {f : Division → Port → Port}
    (hg : ∀ d s, g d s = s.setPort d (f d s.ports[d])) (s : State) :
    forDivisions g s = { s with ports := Vector.ofFn fun d => f d s.ports[d] } := by
  have chest : ∀ d t, g d t = t.putChest d ⟨f d (t.chest d).port, (t.chest d).held, (t.chest d).record⟩ :=
    fun d t => (hg d t).trans (t.setChest_self d _).symm
  rw [forDivisions_chest (f := fun d c => ⟨f d c.port, c.held, c.record⟩) chest]
  simp only [State.chest, State.ofFn_held, State.ofFn_divisions]

/-! ### RESET_RELEASE (R11, R142, R149) -/

theorem Port.enterAllOff_eq (p : Port) : p.enterAllOff = { p with
    queue := p.queue ++ [.allOff]
    owedAllOff := false
    offerDue := decide (p.state = .waiting) || p.offerDue } := by
  unfold Port.enterAllOff Port.noteChange
  by_cases waiting : p.state = .waiting <;> simp [waiting]

theorem State.enterAllOff_eq_setPort (d : Division) (s : State) : s.enterAllOff d
    = s.setPort d (if s.ports[d].allOffReady = true then s.ports[d].enterAllOff else s.ports[d]) := by
  unfold State.enterAllOff
  split
  · rfl
  · exact (s.setPort_self d).symm

/-- Settles O4: nothing else acts in reset; RESET_RELEASE acts there alone, and enters the four owed ALL-OFFs. -/
theorem resetReleaseStartsDevice : Obligations.ResetReleaseStartsDevice := by
  refine ⟨fun s a w x v q d held c hc => ?held, fun straps s running => ?running, fun straps s held => ?release⟩
  case held =>
    refine exec_of_held held ?_ (fun straps => ?_) ?_ <;> rintro rfl <;> simp at hc
  case running =>
    have : s.resetRelease straps = s := if_neg (by simp [running])
    exact congrArg _ this
  case release =>
    have entered := forDivisions_port (f := fun _ p => if p.allOffReady = true then p.enterAllOff else p)
      State.enterAllOff_eq_setPort { s with resetHeld := false, partAddress := straps }
    simp only [Port.allOffReady_iff, Port.enterAllOff_eq] at entered
    have released : s.resetRelease straps = forDivisions State.enterAllOff
        { s with resetHeld := false, partAddress := straps } := if_pos held
    rw [exec, execResetRelease, released, entered]

end Sys2Proof.Machine

/-!
Frame lock and message assembly (01, R5 to R19): what a SYNC does to a lock, what a loss of lock changes, and each frame
by what is in progress; then O9 to O13 and O15 to O17.
-/

namespace Sys2Proof.Machine

-- One proof at a time, for the memory limit of the check.
set_option Elab.async false

/-! ### Counting SYNCs (R7 to R9, R145) -/

namespace FrameLock

variable {l : FrameLock} {n c : Nat} {now : Time} {a b : Sys2Proof.Alignment}

theorem countSync_search (hc : c = min (l.counts[a] + 1) n) (search : l.aligned = none) (below : c < n) :
    l.countSync n now a = { l with counts := l.counts.set a c } := by
  simp only [countSync, search, ← hc, if_neg (not_le.mpr below)]

theorem countSync_take (hc : c = min (l.counts[a] + 1) n) (search : l.aligned = none) (reached : n ≤ c) :
    l.countSync n now a = { aligned := some a, counts := (Vector.replicate 16 0).set a c, lastSync := now } := by
  simp only [countSync, search, ← hc, if_pos reached]

theorem countSync_keep (hc : c = min (l.counts[a] + 1) n) (locked : l.aligned = some a) :
    l.countSync n now a = { l with counts := (Vector.replicate 16 0).set a c, lastSync := now } := by
  simp only [countSync, locked, ← hc, if_true]

theorem countSync_competing (hc : c = min (l.counts[a] + 1) n) (locked : l.aligned = some b) (other : a ≠ b)
    (below : 2 * c < n) : l.countSync n now a = { l with counts := l.counts.set a c } := by
  simp only [countSync, locked, ← hc, if_neg other, if_neg (not_le.mpr below)]

theorem countSync_lose (hc : c = min (l.counts[a] + 1) n) (locked : l.aligned = some b) (other : a ≠ b)
    (reached : n ≤ 2 * c) : l.countSync n now a = l.lost := by
  simp only [countSync, locked, ← hc, if_neg other, if_pos reached]

/-- The 48-frame-time limit (R2, R9). -/
theorem timedOut_iff : l.timedOut now = true ↔ l.aligned.isSome = true ∧ 0 < Time.diff now (l.lastSync + 48) := by
  rw [timedOut, Bool.and_eq_true, Time.passed, decide_eq_true_eq]
  rfl

theorem timedOut_eq_false (h : ∀ b, l.aligned = some b → Time.diff now (l.lastSync + 48) ≤ 0) :
    l.timedOut now = false := by
  rw [Bool.eq_false_iff]
  intro out
  obtain ⟨locked, passed⟩ := timedOut_iff.mp out
  obtain ⟨b, hb⟩ := Option.isSome_iff_exists.mp locked
  exact absurd (h b hb) (not_le.mpr passed)

end FrameLock

namespace State

variable {s : State} {n : Nat} {a b : Sys2Proof.Alignment}

theorem takeSync_of_lost (locked : s.nave.aligned.isSome = true)
    (lost : (s.nave.countSync s.tables.control.lockCount s.deviceTime a).aligned = none) : s.takeSync a = s.loseLock := by
  simp only [takeSync, locked, lost, Option.isNone_none, Bool.and_self, if_true]

theorem takeSync_of_taken (search : s.nave.aligned = none)
    (taken : (s.nave.countSync s.tables.control.lockCount s.deviceTime a).aligned = some b) :
    s.takeSync a = { s with
      nave := s.nave.countSync s.tables.control.lockCount s.deviceTime a, assembly := .ready } := by
  simp [takeSync, search, taken]

theorem takeSync_of_same
    (same : (s.nave.countSync s.tables.control.lockCount s.deviceTime a).aligned = s.nave.aligned) :
    s.takeSync a = { s with nave := s.nave.countSync s.tables.control.lockCount s.deviceTime a } := by
  cases h : s.nave.aligned <;> simp [takeSync, same, h]

end State

/-- A SYNC on a running device. -/
theorem exec_sync_of_running {s : State} (running : s.Running) (a : Sys2Proof.Alignment) :
    exec (.sync a) s = .next (s.takeSync a) := by
  rw [exec, execSync, State.live_of_running running]

/-- Settles O9: by the lock held before and the count after. -/
theorem syncCountsTowardLock : Obligations.SyncCountsTowardLock := by
  intro a b s n c running hn hc
  subst hn
  rw [exec_sync_of_running running]
  refine ⟨fun search below => ?search, fun search reached => ?take, fun locked => ?keep,
    fun locked other below => ?competing⟩
  case search =>
    have counted := FrameLock.countSync_search (now := s.deviceTime) hc search below
    rw [State.takeSync_of_same (by rw [counted]), counted]
  case take =>
    have counted := FrameLock.countSync_take (now := s.deviceTime) hc search reached
    rw [State.takeSync_of_taken (b := a) search (by rw [counted]), counted]
  case keep =>
    have counted := FrameLock.countSync_keep (now := s.deviceTime) hc locked
    rw [State.takeSync_of_same (by rw [counted]), counted]
  case competing =>
    have counted := FrameLock.countSync_competing (now := s.deviceTime) hc locked other below
    rw [State.takeSync_of_same (by rw [counted]), counted]

/-! ### Loss of lock (R9) -/

namespace State

variable {s : State}

theorem abort_of_ready (ready : s.assembly = .ready) : s.abort = s := by
  simp only [abort, ready]

theorem abort_of_not_ready (busy : s.assembly ≠ .ready) :
    s.abort = { s.raise Counter.abortedOrMalformed with assembly := .ready } := by
  unfold abort
  split
  · next ready => exact absurd ready busy
  · rfl
  · rfl

/-- Opening a waiting LOAD's stream changes the assembly and the counters alone (R17). -/
theorem openLoad_frame (s : State) :
    s.openLoad = { s with assembly := s.openLoad.assembly, counters := s.openLoad.counters } := by
  unfold openLoad
  split
  · rfl
  · dsimp only
    split <;> rfl

theorem openLoad_not_ready (busy : s.assembly ≠ .ready) : s.openLoad.assembly ≠ .ready := by
  unfold openLoad
  split
  · exact busy
  · dsimp only
    split <;> nofun

theorem loseLock_eq (s : State) : s.loseLock = { s with
    nave := { s.nave with aligned := none, counts := Vector.replicate 16 0 }
    assembly := .ready
    counters := if s.assembly = .ready then (s.raise Counter.lockLosses).counters
      else ((s.openLoad.raise Counter.lockLosses).raise Counter.abortedOrMalformed).counters
    flags := if s.follower.mode = .idle then s.flags else s.flags ||| 1 } := by
  have aborted : (({ s.openLoad with nave := s.openLoad.nave.lost } : State).raise Counter.lockLosses).abort = { s with
      nave := { s.nave with aligned := none, counts := Vector.replicate 16 0 }
      assembly := .ready
      counters := if s.assembly = .ready then (s.raise Counter.lockLosses).counters
        else ((s.openLoad.raise Counter.lockLosses).raise Counter.abortedOrMalformed).counters } := by
    by_cases ready : s.assembly = .ready
    · rw [openLoad_of_ready ready, if_pos ready, ← ready]
      exact abort_of_ready (s := ({ s with nave := s.nave.lost } : State).raise Counter.lockLosses) ready
    · rw [if_neg ready]
      refine (abort_of_not_ready ?_).trans ?_
      · exact openLoad_not_ready ready
      · rw [openLoad_frame]
        rfl
  rw [loseLock, aborted]
  dsimp only
  split <;> rfl

end State

/-- Settles O10: both events act as `loseLock`; within the limit, or in SEARCH, LOCK_LOSS does nothing. -/
theorem lockIsLost : Obligations.LockIsLost := by
  refine ⟨fun s within => ?within, fun c b s running locked event => ?lost⟩
  case within =>
    have stays : s.takeLockLoss = s := by
      rw [State.takeLockLoss, FrameLock.timedOut_eq_false within]
      rfl
    exact next_live_of_stays stays
  case lost =>
    rw [← State.loseLock_eq]
    rcases event with ⟨rfl, passed⟩ | ⟨a, rfl, other, reached⟩
    · have out : s.nave.timedOut s.deviceTime = true :=
        FrameLock.timedOut_iff.mpr ⟨by rw [locked]; rfl, of_decide_eq_true passed⟩
      rw [exec, execLockLoss, State.live_of_running running, State.takeLockLoss, if_pos out]
    · have counted := FrameLock.countSync_lose (now := s.deviceTime) rfl locked other reached
      rw [exec_sync_of_running running, State.takeSync_of_lost (by rw [locked]; rfl) (by rw [counted]; rfl)]

/-! ### LOAD (R17) -/

theorem tableShape_eq_some {table : BitVec 4} {rows words : Nat} : tableShape table = some (rows, words) ↔
    table = 0 ∧ rows = 1 ∧ words = 2 ∨ table = 1 ∧ rows = 2 ∧ words = 1 ∨ table = 2 ∧ rows = 4 ∧ words = 3
    ∨ table = 3 ∧ rows = 8 ∧ words = 5 ∨ table = 4 ∧ rows = 64 ∧ words = 3 := by
  obtain ⟨t⟩ := table
  fin_cases t <;> simp [tableShape, eq_comm]

theorem Assembly.completeLoad_eq_none {a : Assembly}
    (h : ∀ addr acting p, a ≠ .assembling ⟨.command addr .load, acting, [p]⟩) : a.completeLoad = none := by
  unfold Assembly.completeLoad
  split
  · exact absurd rfl (h _ _ _)
  · rfl

namespace State

variable {s : State} {acting : Bool} {p : Data12}

theorem openLoad_of_complete (complete : s.assembly.completeLoad = some (acting, p)) : s.openLoad =
    if (acting && !(openedStream acting p).acting) = true then
      ({ s with assembly := .streaming (openedStream acting p) } : State).raise Counter.loadRefusals
    else { s with assembly := .streaming (openedStream acting p) } := by
  simp only [openLoad, complete]

end State

theorem openedStream_acting {acting : Bool} {p : Data12} : (openedStream acting p).acting = true ↔ acting = true
    ∧ ∃ rows words, tableShape (p.extractLsb' 8 4) = some (rows, words) ∧ p.toNat % 256 < rows := by
  have row : field p 0 8 = p.toNat % 256 := by simp [field_toNat]
  rw [openedStream, Bool.and_eq_true, row]
  cases tableShape (p.extractLsb' 8 4) <;> simp [Prod.ext_iff]

theorem openedStream_eq {acting running : Bool} {p : Data12} (h : (openedStream acting p).acting = running) :
    openedStream acting p
      = { acting := running, table := p.extractLsb' 8 4, nextRow := p.toNat % 256, staged := [] } := by
  have row : field p 0 8 = p.toNat % 256 := by simp [field_toNat]
  rw [← h, ← row]
  rfl

theorem State.openLoad_locked {s : State} (locked : s.Locked) : s.openLoad.Locked := by
  rw [State.openLoad_frame]
  exact locked

/-! ### Frames on the lock alignment (R12 to R14) -/

section Locked

variable {s : State} (locked : s.Locked)

include locked

theorem exec_data_of_locked (w : Data12) : exec (.data w) s = .next (s.openLoad.takeData w) := by
  rw [exec, execData, State.decoded_of_locked locked]

theorem exec_commandHeader_of_locked (v : Value6) :
    exec (.commandHeader v) s = .next (s.openLoad.takeCommandHeader v) := by
  rw [exec, execCommandHeader, State.decoded_of_locked locked]

theorem exec_lostOnset_of_locked : exec .lostOnset s = .next (s.openLoad.takeDamaged Counter.lostOnsets) := by
  rw [exec, execLostOnset, State.decoded_of_locked locked]

theorem exec_damagedFrame_of_locked : exec .damagedFrame s = .next (s.openLoad.takeDamaged Counter.damagedFrames) := by
  rw [exec, execDamagedFrame, State.decoded_of_locked locked]

end Locked

/-- Settles O11: the stream as the payload gives it, acting or refused; the frames that open it first. -/
theorem loadOpensStream : Obligations.LoadOpensStream := by
  refine ⟨fun s none => ?none, fun table rows words => tableShape_eq_some,
    fun s acting p addr running complete => ?load, fun s w x v locked => ?first⟩
  case none =>
    exact next_live_of_stays (State.openLoad_of_none (Assembly.completeLoad_eq_none none))
  case load =>
    have opened := State.openLoad_of_complete (s := s) (acting := acting) (p := p) (by rw [complete]; rfl)
    rw [exec, execLoad, State.live_of_running running, opened]
    refine ⟨fun accepted => ?accepted, fun hacting refused => ?refused⟩
    case accepted =>
      have same : (openedStream acting p).acting = acting := by
        cases acting with
        | false => rfl
        | true => exact openedStream_acting.mpr ⟨rfl, accepted.resolve_left nofun⟩
      rw [if_neg (by simp [same]), openedStream_eq same]
    case refused =>
      have idle : (openedStream acting p).acting = false := by
        rw [Bool.eq_false_iff]
        intro acts
        obtain ⟨-, rows, words, shape, inside⟩ := openedStream_acting.mp acts
        rcases refused with none | ⟨rows', words', shape', outside⟩
        · rw [none] at shape
          cases shape
        · rw [shape] at shape'
          obtain ⟨rfl, rfl⟩ := Prod.mk.inj (Option.some.inj shape')
          omega
      rw [if_pos (by rw [idle, hacting]; rfl), openedStream_eq idle]
      rfl
  case first =>
    have opened := State.openLoad_locked locked
    simp only [exec_data_of_locked locked, exec_data_of_locked opened, exec_chordHeader_of_locked locked,
      exec_chordHeader_of_locked opened, exec_commandHeader_of_locked locked, exec_commandHeader_of_locked opened,
      exec_lostOnset_of_locked locked, exec_lostOnset_of_locked opened, exec_damagedFrame_of_locked locked,
      exec_damagedFrame_of_locked opened, State.openLoad_openLoad, and_self]

end Sys2Proof.Machine

namespace Sys2Proof.Machine

-- One proof at a time, for the memory limit of the check.
set_option Elab.async false

/-! ### Assembling a message (R13) -/

namespace State

variable {s : State} {m : Message}

/-- A complete message that is no LOAD is handed on if it is acting. -/
theorem assemble_complete {x : Handed} (full : m.header.expected ≤ m.payloads.length)
    (makes : m.header.handed m.payloads = some x) : s.assemble m = { s with
      assembly := .ready, handed := if m.acting then s.handed ++ [x] else s.handed } := by
  rw [assemble, if_neg (not_lt.mpr full), complete]
  split
  · next addr h =>
    rw [h] at makes
    cases makes
  · simp only [makes, Option.toList_some]

/-- A complete LOAD waits for its stream (log 5). -/
theorem assemble_load {addr : BitVec 3} {acting : Bool} {p : Data12} :
    s.assemble ⟨.command addr .load, acting, [p]⟩
      = { s with assembly := .assembling ⟨.command addr .load, acting, [p]⟩ } := by
  rw [assemble, if_neg (by simp [Header.expected, CommandCode.expected])]
  rfl

theorem takeData_of_ready (ready : s.assembly = .ready) (w : Data12) : s.takeData w = s.raise Counter.unexpectedData := by
  simp only [takeData, ready]

theorem takeData_of_assembling (assembling : s.assembly = .assembling m) (w : Data12) :
    s.takeData w = s.assemble { m with payloads := m.payloads ++ [w] } := by
  simp only [takeData, assembling]

theorem takeData_of_streaming {l : LoadStream} (streaming : s.assembly = .streaming l) (w : Data12) :
    s.takeData w = s.tableWord l w := by
  simp only [takeData, streaming]

end State

/-- A message that still lacks payloads is no complete LOAD. -/
theorem Message.noLoadWaiting {s : State} {m : Message} (assembling : s.assembly = .assembling m)
    (lacks : m.payloads.length < m.header.expected) : s.openLoad = s := by
  refine State.openLoad_of_none (Assembly.completeLoad_eq_none fun addr acting p h => ?_)
  rw [assembling] at h
  obtain rfl := Assembly.assembling.inj h
  simp [Header.expected, CommandCode.expected] at lacks

/-- A DATA frame for a message in progress. -/
theorem exec_data_of_assembling {s : State} {m : Message} (locked : s.Locked) (assembling : s.assembly = .assembling m)
    (lacks : m.payloads.length < m.header.expected) (w : Data12) :
    exec (.data w) s = .next (s.assemble { m with payloads := m.payloads ++ [w] }) := by
  rw [exec_data_of_locked locked, Message.noLoadWaiting assembling lacks, State.takeData_of_assembling assembling]

/-- Settles O12: the assembly decides what a DATA frame is. -/
theorem dataTakenIntoMessage : Obligations.DataTakenIntoMessage := by
  refine ⟨fun _ _ _ => ⟨rfl, rfl⟩, fun w s locked => ⟨fun ready => ?ready, fun m assembling more => ?more,
    fun base d1 d2 d3 assembling => ?chord, fun addr code acting ps h assembling last => ?command,
    fun addr acting assembling => ?load⟩⟩
  case ready =>
    rw [exec_data_of_locked locked, State.openLoad_of_ready ready, State.takeData_of_ready ready]
  case more =>
    rw [exec_data_of_assembling locked assembling (by omega), State.assemble_of_lt (by simpa using more)]
  case chord =>
    rw [exec_data_of_assembling locked assembling (by simp [Header.expected]),
      State.assemble_complete (x := .chord base d1 d2 d3 w) (by simp [Header.expected]) rfl]
    rfl
  case command =>
    rcases last with ⟨rfl, rfl, rfl⟩ | ⟨d1, rfl, rfl, rfl⟩ | ⟨rfl, rfl, rfl⟩ | ⟨rfl, rfl, rfl⟩ | ⟨rfl, rfl, rfl⟩
    all_goals
      rw [exec_data_of_assembling locked assembling (by simp [Header.expected, CommandCode.expected]),
        State.assemble_complete (by simp [Header.expected, CommandCode.expected]) rfl]
  case load =>
    rw [exec_data_of_assembling locked assembling (by simp [Header.expected, CommandCode.expected])]
    exact congrArg _ State.assemble_load

/-! ### The words of a LOAD stream (R18, R20) -/

namespace State

variable {s : State} {l : LoadStream}

theorem tableWord_of_idle (idle : l.acting = false) (w : Data12) : s.tableWord l w = s := by
  simp [tableWord, idle]

theorem tableWord_of_acting {rows words : Nat} (acting : l.acting = true)
    (shape : tableShape l.table = some (rows, words)) (w : Data12) : s.tableWord l w =
      if rows ≤ l.nextRow then
        { s.raise Counter.loadRefusals with assembly := .streaming { l with acting := false } }
      else if l.staged.length + 1 < words then
        { s with assembly := .streaming { l with staged := l.staged ++ [w] } }
      else
        { s.storeRow l.table l.nextRow (l.staged ++ [w]) with
          assembly := .streaming { l with nextRow := l.nextRow + 1, staged := [] } } := by
  simp only [tableWord, acting, shape, if_true]

/-- An open stream is no waiting LOAD. -/
theorem openLoad_of_streaming (streaming : s.assembly = .streaming l) : s.openLoad = s :=
  openLoad_of_none (by rw [streaming]; rfl)

end State

/-- Settles O13: an idle stream discards, an overrun is refused, a word is staged, the last one stores its row. -/
theorem dataFillsTableRows : Obligations.DataFillsTableRows := by
  intro w s l locked streaming
  rw [exec_data_of_locked locked, State.openLoad_of_streaming streaming, State.takeData_of_streaming streaming]
  refine ⟨fun idle => ?idle, fun rows words acting shape => ?acting⟩
  case idle => rw [State.tableWord_of_idle idle]
  case acting =>
    rw [State.tableWord_of_acting acting shape]
    refine ⟨fun past => ?_, fun inside more => ?_, fun inside last => ?_⟩
    · rw [if_pos past]
      rfl
    · rw [if_neg (by omega), if_pos more]
    · rw [if_neg (by omega), if_neg (by omega)]

/-! ### COMMAND headers (R6, R13, R16) -/

theorem actsOn_iff {part address : BitVec 3} {code : CommandCode} : actsOn part address code = true ↔
    address = part ∧ address ≠ 7 ∨ address = 7 ∧ code ≠ .read := by
  unfold actsOn
  split <;> simp_all

/-- In READY a header that expects no DATA is handed on at once if it is acting (R13). -/
theorem State.takeHeader_of_bare {s : State} {h : Header} {x : Handed} (ready : s.assembly = .ready)
    (bare : h.expected = 0) (makes : h.handed [] = some x) (acting : Bool) :
    s.takeHeader h acting = { s with handed := if acting then s.handed ++ [x] else s.handed } := by
  rw [State.takeHeader, State.endByHeader_of_ready ready]
  refine (State.assemble_complete (m := ⟨h, acting, []⟩) bare.le makes).trans ?_
  rw [← ready]

/-- Settles O15: by the DATA frames that the command expects. -/
theorem commandHeaderOpensMessage : Obligations.CommandHeaderOpensMessage := by
  refine ⟨rfl, rfl, fun v s acting locked ready acts => ?_⟩
  have same : actsOn s.partAddress (headerAddress v) (headerCode v) = acting :=
    Bool.eq_iff_iff.mpr (actsOn_iff.trans acts.symm)
  rw [exec_commandHeader_of_locked locked, State.openLoad_of_ready ready, State.takeCommandHeader, same]
  refine ⟨fun expects => ?opens, fun stop => ?stop, fun gate => ?gate⟩
  case opens =>
    have opens : 0 < (Header.command (headerAddress v) (headerCode v)).expected := expects
    rw [State.takeHeader_of_ready ready opens]
  case stop =>
    rw [stop, State.takeHeader_of_bare ready rfl rfl]
  case gate =>
    rw [gate, State.takeHeader_of_bare ready rfl rfl]

/-! ### Headers over what is in progress (R14, R19) -/

namespace State

variable {s : State}

theorem endByHeader_of_assembling {m : Message} (assembling : s.assembly = .assembling m) :
    s.endByHeader = { s.raise Counter.abortedOrMalformed with assembly := .ready } := by
  simp only [endByHeader, abort, assembling]

theorem endByHeader_of_streaming {l : LoadStream} (streaming : s.assembly = .streaming l) : s.endByHeader =
    if (l.acting && !l.staged.isEmpty) = true then { s.raise Counter.loadRefusals with assembly := .ready }
    else { s with assembly := .ready } := by
  simp only [endByHeader, streaming]

end State

/-- A header acts as it would once what is in progress has ended (R14, R19). -/
theorem exec_header_of_ended {s t : State} {x : Symbol} {v : Value6} {c : Instr} (locked : s.Locked)
    (waits : s.NoLoadWaiting) (header : c = .chordHeader x ∧ (tagBase x).isSome = true ∨ c = .commandHeader v)
    (ended : s.endByHeader = t) (still : t.Locked) (ready : t.assembly = .ready)
    (address : t.partAddress = s.partAddress) : exec c s = exec c t := by
  have same : ∀ h acting, s.takeHeader h acting = t.takeHeader h acting := fun h acting => by
    rw [State.takeHeader, State.takeHeader, ended, State.endByHeader_of_ready ready]
  rcases header with ⟨rfl, base⟩ | rfl
  · obtain ⟨base, hbase⟩ := Option.isSome_iff_exists.mp base
    rw [exec_chordHeader_of_locked locked, exec_chordHeader_of_locked still, State.openLoad_of_none waits,
      State.openLoad_of_ready ready, State.takeChordHeader_of_tagBase hbase, State.takeChordHeader_of_tagBase hbase, same]
  · rw [exec_commandHeader_of_locked locked, exec_commandHeader_of_locked still, State.openLoad_of_none waits,
      State.openLoad_of_ready ready, State.takeCommandHeader, State.takeCommandHeader, same, address]

/-- Settles O16: a message, a partial row, or a stream without one has ended when the header opens its own. -/
theorem headerEndsWhatIsInProgress : Obligations.HeaderEndsWhatIsInProgress := by
  intro s x v c locked waits header
  refine ⟨fun m assembling => ?message, fun l streaming => ⟨fun acting partly => ?row, fun whole => ?stream⟩⟩
  case message =>
    exact exec_header_of_ended locked waits header (State.endByHeader_of_assembling assembling) locked rfl rfl
  case row =>
    have ended := State.endByHeader_of_streaming streaming
    rw [if_pos (by simp [acting, partly])] at ended
    exact exec_header_of_ended locked waits header ended locked rfl rfl
  case stream =>
    have ended := State.endByHeader_of_streaming streaming
    rw [if_neg (by rcases whole with h | h <;> simp [h])] at ended
    exact exec_header_of_ended locked waits header ended locked rfl rfl

/-! ### Damaged frames (R7, R12, R14) -/

theorem State.decoded_of_search {s : State} (search : s.nave.aligned = none) (g : State → State) : s.decoded g = s :=
  if_pos (by simp [search])

theorem exec_corruptedSync_of_locked {s : State} (locked : s.Locked) :
    exec .corruptedSync s = .next (s.raise Counter.corruptedSyncs) := by
  rw [exec, execCorruptedSync, State.decoded_of_locked locked]

theorem State.takeChordHeader_of_control {x : Symbol} (hx : tagBase x = none) (s : State) :
    s.takeChordHeader x = s.takeDamaged Counter.damagedFrames := by
  simp only [State.takeChordHeader, hx]

theorem State.takeDamaged_of_ready {s : State} (ready : s.assembly = .ready) (c : Counter) :
    s.takeDamaged c = s.raise c := by
  rw [State.takeDamaged, State.abort_of_ready ready]

theorem State.takeDamaged_of_busy {s : State} (busy : s.assembly ≠ .ready) (c : Counter) : s.takeDamaged c = { s with
    assembly := .ready, counters := ((s.raise Counter.abortedOrMalformed).raise c).counters } := by
  rw [State.takeDamaged, State.abort_of_not_ready busy]
  rfl

/-- Settles O17: in SEARCH nothing is decoded; in LOCKED a damaged frame aborts what is in progress. -/
theorem damagedAndInterleavedFrames : Obligations.DamagedAndInterleavedFrames := by
  refine ⟨fun s w x v o search c hc => ?search, ⟨fun _ => rfl, fun s locked => ?corrupted⟩,
    fun s x locked waits => ⟨fun ready => ?ready, fun busy => ?busy⟩⟩
  case search =>
    have stays : ∀ g : State → State, (Host.Outcome.next (s.decoded g) : Result) = .next s :=
      fun g => congrArg _ (State.decoded_of_search search g)
    simp only [List.mem_cons, List.not_mem_nil, or_false] at hc
    rcases hc with rfl | rfl | rfl | rfl | rfl | rfl | rfl | rfl
    · rfl
    all_goals exact stays _
  case corrupted => rw [exec_corruptedSync_of_locked locked]; rfl
  case ready =>
    rw [exec_lostOnset_of_locked locked, exec_damagedFrame_of_locked locked, exec_chordHeader_of_locked locked,
      State.openLoad_of_none waits]
    simp only [State.takeDamaged_of_ready ready, true_and]
    intro control
    rw [State.takeChordHeader_of_control control, State.takeDamaged_of_ready ready]
  case busy =>
    rw [exec_lostOnset_of_locked locked, exec_damagedFrame_of_locked locked, exec_chordHeader_of_locked locked,
      State.openLoad_of_none waits]
    simp only [State.takeDamaged_of_busy busy, true_and]
    intro control
    rw [State.takeChordHeader_of_control control, State.takeDamaged_of_busy busy]

end Sys2Proof.Machine

/-! The Table Store (09, R154 to R166): the checks of each table as arithmetic, and a division write; O19 and O20. -/

namespace Sys2Proof.Machine

-- One proof at a time, for the memory limit of the check.
set_option Elab.async false

/-! ### Checks of the other tables (R160 to R166) -/

theorem bit_eq (w : Data12) (i : Nat) : bit w i = decide (w.toNat / 2 ^ i % 2 = 1) := by
  rw [bit, BitVec.getLsbD, Nat.testBit_eq_decide_div_mod_eq]

theorem ControlRow.valid_iff {w0 w1 : Data12} : (⟨w0, w1⟩ : ControlRow).valid = true ↔
    w0.toNat / 64 = 0 ∧ w1.toNat / 128 = 0 ∧ 4 ≤ w0.toNat ∧ w0.toNat ≤ 60 ∧ w0.toNat % 2 = 0 := by
  have h0 := w0.isLt
  have h1 := w1.isLt
  simp only [ControlRow.valid, ControlRow.lockCount, field_toNat, Bool.and_eq_true, decide_eq_true_eq]
  omega

theorem loftValid_iff {w : Data12} : loftValid w = true ↔ w.toNat ≤ 400 := by
  have h := w.isLt
  simp only [loftValid, loftDelay, field_toNat, Bool.and_eq_true, decide_eq_true_eq]
  omega

theorem ProfileRow.leadLoft_isSome {r : ProfileRow} : r.leadLoft.isSome = true ↔ r.w2.toNat % 4 ≤ 2 := by
  have loft : field r.w2 0 2 = r.w2.toNat % 4 := by simp [field_toNat]
  have small : r.w2.toNat % 4 < 4 := Nat.mod_lt _ (by decide)
  rw [ProfileRow.leadLoft, loft]
  generalize r.w2.toNat % 4 = n at small
  interval_cases n <;> simp

theorem ProfileRow.valid_iff {w0 w1 w2 w3 w4 : Data12} : (⟨w0, w1, w2, w3, w4⟩ : ProfileRow).valid = true ↔
    30 ≤ w0.toNat ∧ w0.toNat ≤ w1.toNat ∧ w1.toNat ≤ 200 ∧ w2.toNat / 128 ≤ 16
      ∧ w2.toNat / 4 % 32 ≤ 16 ∧ w2.toNat % 4 ≤ 2 ∧ w3.toNat < 2048 := by
  have h0 := w0.isLt
  have h1 := w1.isLt
  have h2 := w2.isLt
  have h3 := w3.isLt
  simp only [ProfileRow.valid, Bool.and_eq_true, ProfileRow.leadLoft_isSome, decide_eq_true_eq, ProfileRow.bpmMin,
    ProfileRow.bpmMax, ProfileRow.alpha, ProfileRow.beta, field_toNat, bit_eq, Bool.not_eq_true', decide_eq_false_iff_not]
  omega

theorem RegistrationRow.valid_iff {r : RegistrationRow} : r.valid = true ↔ r.w0.toNat < 128 := by
  have h := r.w0.isLt
  simp only [RegistrationRow.valid, field_toNat, decide_eq_true_eq]
  omega

/-! ### Rows handed to the Table Store (R159) -/

namespace State

variable (s : State) (w0 w1 w2 w3 w4 : Data12)

theorem storeRow_control : s.storeRow 0 0 [w0, w1] = if (⟨w0, w1⟩ : ControlRow).valid then
    { s with tables := { s.tables with control := ⟨w0, w1⟩ } } else s.raise Counter.loadRefusals :=
  rfl

theorem storeRow_loft (i : Fin 2) : s.storeRow 1 i.val [w0] = if loftValid w0 then
    { s with tables := { s.tables with loft := s.tables.loft.set i w0 } } else s.raise Counter.loadRefusals :=
  dif_pos i.isLt

theorem storeRow_profile (i : Fin 8) : s.storeRow 3 i.val [w0, w1, w2, w3, w4] =
    if (⟨w0, w1, w2, w3, w4⟩ : ProfileRow).valid then
      { s with tables := { s.tables with profile := s.tables.profile.set i ⟨w0, w1, w2, w3, w4⟩ } }
    else s.raise Counter.loadRefusals :=
  dif_pos i.isLt

theorem storeRow_registration (i : Fin 64) : s.storeRow 4 i.val [w0, w1, w2] =
    if (⟨w0, w1, w2⟩ : RegistrationRow).valid then
      { s with tables := { s.tables with registration := s.tables.registration.set i ⟨w0, w1, w2⟩ } }
    else s.raise Counter.loadRefusals :=
  dif_pos i.isLt

end State

/-- Settles O19: each table's check as arithmetic of the words. -/
theorem rowStoredOrRefused : Obligations.RowStoredOrRefused := by
  intro s w0 w1 w2 w3 w4
  refine ⟨?control, fun i => ?loft, fun i => ?profile, fun i => ?registration⟩
  case control => simp only [State.storeRow_control, ControlRow.valid_iff]
  case loft => simp only [State.storeRow_loft, loftValid_iff]
  case profile => simp only [State.storeRow_profile, ProfileRow.valid_iff]
  case registration => simp only [State.storeRow_registration, RegistrationRow.valid_iff]

/-! ### The port change of a division row (R154, R155) -/

theorem DivisionRow.enabled_iff {r : DivisionRow} : r.enabled = true ↔ 2048 ≤ r.w0.toNat := by
  have h := r.w0.isLt
  rw [DivisionRow.enabled, bit_eq, decide_eq_true_eq]
  omega

namespace State

variable {s : State} {d : Division}

theorem changePort_of_same {enabled : Bool} (same : enabled = false ↔ s.ports[d].state = .off) :
    s.changePort d enabled = s := by
  cases enabled
  · simp only [changePort, Bool.false_eq_true, if_false, if_pos (same.mp rfl)]
  · simp only [changePort, if_true, if_neg (fun off => absurd (same.mpr off) (by decide))]

theorem changePort_disables (on : s.ports[d].state ≠ .off) : s.changePort d false = s.disable d := by
  simp only [changePort, Bool.false_eq_true, if_false, if_neg on]

theorem changePort_enables (off : s.ports[d].state = .off) : s.changePort d true = s.enable d := by
  simp only [changePort, if_true, if_pos off]

theorem enable_eq (s : State) (d : Division) : s.enable d = { s with
    divisions := s.divisions.set d DivisionRecord.silent
    ports := s.ports.set d { s.ports[d] with
      state := .active, queue := [], credits := 0, owedAllOff := true
      waitingSince := none, transmission := none, offerDue := false } } := by
  have owed : s.ports[d].enabled.oweAllOff = { s.ports[d] with
      state := .active, queue := [], credits := 0, owedAllOff := true
      waitingSince := none, transmission := none, offerDue := false } := Port.oweAllOff_of_on nofun
  rw [enable, silence_setPort, owed]
  simp [setChest]

/-! ### The due rows of a changed lead (R107, R122, R163) -/

/-- How many rows on the list lack the division's mark. -/
def unreleased (s : State) (d : Division) : Nat := s.rol.countP fun r => !s.cues[r].released[d]

theorem releaseRow_of_unreleased_eq_zero (none : s.unreleased d = 0) : s.takeRelease d = s := by
  have earliest : s.earliestUnreleased d = .none := by
    rw [earliestUnreleased, List.find?_eq_none]
    exact List.countP_eq_zero.mp none
  refine takeRelease_of_none ?_
  unfold releaseRow dueRow
  rw [earliest, ite_self]

end State

/-- A row that loses its place in a count, with every other row as it was. -/
theorem countP_lt_of_mem {α : Type} {p q : α → Bool} {l : List α} {r : α} (mem : r ∈ l) (was : p r = true)
    (is : q r = false) (others : ∀ x, q x = true → p x = true) : l.countP q < l.countP p := by
  obtain ⟨before, after, rfl⟩ := List.append_of_mem mem
  have hb := List.countP_mono_left (l := before) fun x _ => others x
  have ha := List.countP_mono_left (l := after) fun x _ => others x
  simp only [List.countP_append, List.countP_cons, was, is, if_true, Bool.false_eq_true, if_false]
  omega

namespace State

variable {s : State} {d : Division} {r : RowNumber}

/-- A mark set on a listed row that lacked it leaves fewer rows without the mark. -/
theorem unreleased_of_marked {t : State} (mem : r ∈ s.rol) (unmarked : s.cues[r].released[d] = false)
    (cues : t.cues = s.cues.set r (s.cues[r].release d)) (rol : t.rol.Sublist s.rol) :
    t.unreleased d < s.unreleased d := by
  have row : ∀ q : RowNumber, t.cues[q] = if r = q then s.cues[r].release d else s.cues[q] := by
    intro q
    rw [cues]
    exact setRow_get s r q _
  refine (rol.countP_le).trans_lt (countP_lt_of_mem mem (by rw [unmarked]; rfl) ?_ fun q hq => ?_)
  · rw [row, if_pos rfl, CueRow.release_released_get, if_pos rfl]
    rfl
  · rw [row] at hq
    split at hq
    · next same =>
      rw [CueRow.release_released_get, if_pos rfl] at hq
      cases hq
    · exact hq

theorem releaseRow_of_held (held : s.held[d].isSome = true) : s.releaseRow d = none := by
  have some : s.held[d].isNone = false := Option.isNone_eq_false_iff.mpr held
  rw [releaseRow, some]
  rfl

theorem hold_held (s : State) (d : Division) (r : RowNumber) : (s.hold d r).held[d] = some r := by
  have held : (s.hold d r).held[d] = if d = d then some r else s.held[d] := setHeld_get s d d _
  rw [held, if_pos rfl]

/-- RELEASE changes nothing, or holds a row and then changes nothing, or leaves fewer rows unreleased. -/
theorem takeRelease_cases (s : State) (d : Division) : s.takeRelease d = s
    ∨ (s.takeRelease d).takeRelease d = s.takeRelease d ∨ (s.takeRelease d).unreleased d < s.unreleased d := by
  cases due : s.releaseRow d with
  | none => exact Or.inl (takeRelease_of_none due)
  | some r =>
    obtain ⟨held, hdue⟩ := releaseRow_eq_some_iff.mp due
    obtain ⟨-, -, earliest, -, -⟩ := dueRow_eq_some_iff.mp hdue
    have fewer : ∀ t : State, t.cues = s.cues.set r (s.cues[r].release d) → t.rol = (s.markReleased d r).rol →
        t.unreleased d < s.unreleased d := by
      intro t cues rol
      refine unreleased_of_marked (List.mem_of_find?_eq_some earliest) (by simpa using List.find?_some earliest) cues ?_
      rw [rol, markReleased_rol]
      split
      · exact List.erase_sublist
      · exact List.Sublist.refl _
    have taken : s.takeRelease d = s.releaseTo d r := by simp only [takeRelease, due]
    rw [taken]
    cases port : s.ports[d].state with
    | off =>
      rw [releaseTo_off r port]
      exact Or.inr (Or.inr (fewer _ rfl rfl))
    | stalled =>
      rw [releaseTo_stalled r port]
      exact Or.inr (Or.inr (fewer _ rfl rfl))
    | waiting => exact Or.inl (by simp only [releaseTo, port])
    | active =>
      cases fits : s.ports[d].fits (s.computeCue d r).run with
      | true =>
        rw [releaseTo_fits port fits]
        have entered := enterRelease_music (r := r) held
        exact Or.inr (Or.inr (fewer _ (congrArg Music.cues entered) (congrArg Music.rol entered)))
      | false =>
        rw [releaseTo_held port fits]
        exact Or.inr (Or.inl (takeRelease_of_none (releaseRow_of_held (by rw [hold_held]; rfl))))

/-- After as many releases as rows lack the mark, none is due or one is held. -/
theorem takeRelease_iterate_fixed (d : Division) (n : Nat) (s : State) (enough : s.unreleased d ≤ n) :
    ((takeRelease · d)^[n] s).takeRelease d = (takeRelease · d)^[n] s := by
  have fixed : ∀ t : State, t.takeRelease d = t → ((takeRelease · d)^[n] t) = t :=
    fun t h => Function.iterate_fixed (f := (takeRelease · d)) h n
  induction n generalizing s with
  | zero => exact releaseRow_of_unreleased_eq_zero (Nat.le_zero.mp enough)
  | succ n ih =>
    rw [Function.iterate_succ_apply]
    have stays : ∀ t : State, t.takeRelease d = t → ((takeRelease · d)^[n] t) = t :=
      fun t h => Function.iterate_fixed (f := (takeRelease · d)) h n
    rcases takeRelease_cases s d with same | held | fewer
    · rw [same, stays s same, same]
    · rw [stays _ held, held]
    · exact ih _ (by omega) stays

theorem releaseDue_eq_iterate (s : State) (d : Division) : s.releaseDue d = (takeRelease · d)^[s.rol.length] s :=
  List.foldl_const _ _ _

/-- Once its due rows are released a division has none due, or holds one (R107, R122). -/
theorem takeRelease_releaseDue (s : State) (d : Division) : (s.releaseDue d).takeRelease d = s.releaseDue d := by
  rw [releaseDue_eq_iterate]
  exact takeRelease_iterate_fixed d _ s List.countP_le_length

theorem takeRelease_running (running : s.Running) (d : Division) (n : Nat) : ((takeRelease · d)^[n] s).Running := by
  induction n generalizing s with
  | zero => exact running
  | succ n ih => exact ih (running_keptByOwn.release d s running)

end State

theorem exec_release_of_running {s : State} (running : s.Running) (d : Division) :
    exec (.release d) s = .next (s.takeRelease d) := by
  rw [exec, execRelease, State.live_of_running running]

theorem exec_stall_of_running {s : State} (running : s.Running) (d : Division) :
    exec (.stall d) s = .next (s.takeStall d) := by
  rw [exec, execStall, State.live_of_running running]

/-- The port change of a division row, case by case (R154, R155). -/
theorem State.changePort_of_cases {s stored changed : State} {d : Division} {row : DivisionRow}
    (hports : stored.ports = s.ports) (hheld : stored.held = s.held) (hdivisions : stored.divisions = s.divisions)
    (cases : (row.w0.toNat < 2048 ↔ s.ports[d].state = .off) ∧ changed = stored
      ∨ row.w0.toNat < 2048 ∧ s.ports[d].state ≠ .off ∧ s.held[d] = none ∧ changed = { stored with
        ports := s.ports.set d s.ports[d].disabled }
      ∨ row.w0.toNat < 2048 ∧ s.ports[d].state ≠ .off
        ∧ (∃ r : RowNumber, s.held[d] = some r ∧ changed = { stored.markReleased d r with
          held := s.held.set d none, ports := s.ports.set d s.ports[d].disabled })
      ∨ 2048 ≤ row.w0.toNat ∧ s.ports[d].state = .off ∧ changed = { stored with
        divisions := s.divisions.set d DivisionRecord.silent
        ports := s.ports.set d { s.ports[d] with
          state := .active, queue := [], credits := 0, owedAllOff := true
          waitingSince := none, transmission := none, offerDue := false } }) :
    stored.changePort d row.enabled = changed := by
  rw [← hports, ← hheld, ← hdivisions] at cases
  have disables : row.w0.toNat < 2048 → row.enabled = false := fun low => by
    rw [Bool.eq_false_iff, Ne, DivisionRow.enabled_iff]
    omega
  rcases cases with ⟨same, rfl⟩ | ⟨low, on, held, rfl⟩ | ⟨low, on, r, held, rfl⟩ | ⟨high, off, rfl⟩
  · refine State.changePort_of_same (Iff.trans ?_ same)
    rw [Bool.eq_false_iff, Ne, DivisionRow.enabled_iff, not_le]
  · rw [disables low, State.changePort_disables on, State.disable_of_none held]
    rfl
  · rw [disables low, State.changePort_disables on]
    simp only [State.disable, State.markHeld, held]
    rfl
  · rw [DivisionRow.enabled_iff.mpr high, State.changePort_enables off, State.enable_eq]

/-- Settles O20: the port change, the stall of a lowered limit, and the due rows of a changed lead, one after another. -/
theorem divisionRowWritten : Obligations.DivisionRowWritten := by
  intro s changed stalled d row running valid stored hchanged hstalled
  have written : s.storeRow 2 d.val [row.w0, row.w1, row.w2] = s.writeDivision d row := by
    rw [State.storeRow_division, if_pos valid]
  have port : (s.storeDivision d row).changePort d row.enabled = changed :=
    State.changePort_of_cases rfl rfl rfl hchanged
  have changedRuns : changed.Running := port ▸ running_keptByOwn.changePort _ _ running
  have stalls : changed.lowerStallLimit d s.tables.division[d] row = stalled := by
    unfold State.lowerStallLimit DivisionRow.stallLimit
    rcases hstalled with ⟨kept, rfl⟩ | ⟨lowered, answers⟩
    · exact if_neg (not_lt.mpr kept)
    · rw [exec_stall_of_running changedRuns] at answers
      rw [if_pos lowered]
      injection answers
  have stalledRuns : stalled.Running := by
    rw [← stalls, State.lowerStallLimit]
    split
    · exact running_keptByOwn.takeStall _ _ changedRuns
    · exact changedRuns
  have whole : s.writeDivision d row = stalled.changeLead d s.tables.division[d] row := by
    rw [State.writeDivision, port, stalls]
  rw [written, whole, State.changeLead, DivisionRow.lead_eq_mod, DivisionRow.lead_eq_mod]
  refine ⟨fun same => if_pos same, fun other => ?_⟩
  rw [if_neg other]
  refine ⟨⟨fun n => (State.takeRelease · d)^[n] stalled, rfl, fun n => ?_, State.releaseDue_eq_iterate _ _⟩, ?_⟩
  · rw [exec_release_of_running (State.takeRelease_running stalledRuns d n)]
    exact congrArg _ (Function.iterate_succ_apply' (State.takeRelease · d) n stalled).symm
  · exact congrArg _ (State.live_keeps (P := (· = stalled.releaseDue d)) rfl (State.takeRelease_releaseDue _ _))

end Sys2Proof.Machine

/-! Cue placement and the leaving of LISTEN (02, R21 to R45): O22 and O23. -/

namespace Sys2Proof.Machine

-- One proof at a time, for the memory limit of the check.
set_option Elab.async false

/-! ### One cue (R30, R31) -/

namespace State

variable {s : State} {r : RowNumber} {c : CueRow}

theorem placeCue_of_low (low : (c.position : Int) ≤ s.highMark) : s.placeCue r c = { s with
    counters := (s.raise Counter.outOfOrder).counters, flags := s.flags ||| 64 } :=
  if_pos low

theorem placeCue_of_inUse (high : s.highMark < (c.position : Int)) (used : s.cues[r].rowState ≠ .empty) :
    s.placeCue r c = { s with counters := (s.raise Counter.tagInUse).counters, flags := s.flags ||| 32 } := by
  rw [placeCue, if_neg (not_le.mpr high), if_pos used]
  rfl

theorem placeCue_of_free (high : s.highMark < (c.position : Int)) (free : s.cues[r].rowState = .empty) :
    s.placeCue r c = s.fillRow r c := by
  rw [placeCue, if_neg (not_le.mpr high), if_neg (not_not.mpr free)]

end State

/-! ### The cues of a chord (R21, R22, R32) -/

theorem chordGate_eq_some {d2 : Data12} {gate : GateMode} (h : d2.toNat / 64 % 4 = 0 ∧ gate = .none
    ∨ d2.toNat / 64 % 4 = 1 ∧ gate = .sound ∨ d2.toNat / 64 % 4 = 2 ∧ gate = .drop) : chordGate d2 = some gate := by
  have gateField : field d2 6 2 = d2.toNat / 64 % 4 := field_toNat d2 6 2
  rcases h with ⟨code, rfl⟩ | ⟨code, rfl⟩ | ⟨code, rfl⟩ <;> simp only [chordGate, gateField, code]

/-- A chord that passes both checks is placed sub-beat by sub-beat (R27). -/
theorem State.placeChord_of_accepted {s : State} {base : Fin 50} {d1 d2 d3 d4 : Data12} {gate : GateMode}
    (hgate : chordGate d2 = some gate) (pattern : d2.toNat / 256 ≠ 0) (on : s.follower.mode ≠ .idle) :
    s.placeChord base d1 d2 d3 d4 = (chordSubBeats d2).foldl
      (fun t sub => t.placeCue (extendedTag base sub) (chordCue gate d1 d2 d3 d4 sub)) s := by
  have set : chordPattern d2 ≠ 0 := chordPattern_eq d2 ▸ pattern
  simp only [State.placeChord, hgate, if_neg set, if_neg on]

/-- The set sub-beats are in ascending order: the first has none below it, the last none above. -/
theorem subBeats_ends : ∀ (sets : Fin 4 → Bool) (sub : Fin 4), sets sub = true →
    ((([0, 1, 2, 3] : List (Fin 4)).filter sets).head? = some sub ↔ ∀ t : Fin 4, t < sub → sets t = false)
    ∧ ((([0, 1, 2, 3] : List (Fin 4)).filter sets).getLast? = some sub ↔ ∀ t : Fin 4, sub < t → sets t = false) := by
  decide

theorem chordCue_eq {gate : GateMode} {d1 d2 d3 d4 : Data12} {sub : Fin 4} {first last : Bool}
    (hfirst : first = true ↔ (chordSubBeats d2).head? = some sub)
    (hlast : last = true ↔ (chordSubBeats d2).getLast? = some sub) : chordCue gate d1 d2 d3 d4 sub = {
      rowState := if first = true ∧ gate ≠ .none then .gated else .pending
      position := 4 * d1.toNat + sub.val
      voices := ⟨d3.extractLsb' 6 6, d3.extractLsb' 0 6, d4.extractLsb' 6 6, d4.extractLsb' 0 6⟩
      regSet := d2.extractLsb' 0 4
      syllable := d2.getLsbD 5
      fermata := last && d2.getLsbD 4
      gateMode := if first then gate else .none
      armed := none
      released := #v[false, false, false, false]
      eastMark := false
      westMark := false } := by
  have latest : decide ((chordSubBeats d2).getLast? = some sub) = last := Bool.eq_iff_iff.mpr (by simp [hlast])
  simp only [chordCue, placedRow, latest, ← hfirst, bit, Bool.and_comm]
  cases first <;> cases gate <;> rfl

/-- Settles O22: one cue by its two checks, and the cues of a chord in turn. -/
theorem chordPlacesItsSubBeats : Obligations.ChordPlacesItsSubBeats := by
  refine ⟨fun s r c => ⟨State.placeCue_of_low, State.placeCue_of_inUse, fun high free => ?filled⟩,
    fun s base d1 d2 d3 d4 rest gate sets running handed hgate hsets pattern on => ?chord⟩
  case filled =>
    rw [State.placeCue_of_free high free]
    rfl
  case chord =>
    have same : chordSets d2 = sets := funext fun t => (hsets t).symm
    refine ⟨?_, fun sub set => ⟨rfl, ?_⟩⟩
    · rw [exec_chordMessage_of_handed running handed]
      refine (congrArg _ (State.placeChord_of_accepted (chordGate_eq_some hgate) pattern ?_)).trans ?_
      · exact on
      · rw [chordSubBeats, same]
    · obtain ⟨first, last⟩ := subBeats_ends sets sub set
      refine ⟨decide ((chordSubBeats d2).head? = some sub), decide ((chordSubBeats d2).getLast? = some sub), ?_, ?_,
        chordCue_eq decide_eq_true_iff decide_eq_true_iff⟩
      · rw [decide_eq_true_iff, chordSubBeats, same, first]
      · rw [decide_eq_true_iff, chordSubBeats, same, last]

/-! ### Predicted times (R43, R45) -/

namespace Follower

variable (f : Follower) (q : Nat)

theorem offset_bounds : 64 * f.offset q ≤ ((q : Int) - (f.ba : Int)) * (f.period : Int)
    ∧ ((q : Int) - (f.ba : Int)) * (f.period : Int) < 64 * (f.offset q + 1) := by
  rw [offset]
  generalize ((q : Int) - (f.ba : Int)) * (f.period : Int) = x
  omega

theorem window_bounds : 256 * f.window ≤ f.period * f.profile.k ∧ f.period * f.profile.k < 256 * (f.window + 1) := by
  rw [window]
  generalize f.period * f.profile.k = x
  omega

theorem defines_iff : f.defines q = true ↔ f.mode = .lead ∨ f.mode = .follow
    ∨ (∃ z, f.mode = .freeze ∧ f.freeze = some z ∧ q ≤ z.position)
    ∨ (∃ l, f.mode = .starved ∧ f.lastReleased = some l ∧ q ≤ l)
    ∨ f.mode = .starved ∧ f.lastReleased = none ∧ q ≤ f.ba := by
  unfold defines
  cases f.mode with
  | freeze => cases f.freeze <;> simp
  | starved => cases h : f.lastReleased <;> simp [horizon, h]
  | _ => simp

theorem passed_iff {x : Int} : f.passed q x = true ↔ f.offset q + x < f.age :=
  decide_eq_true_iff

theorem reached_zero_iff : f.reached q 0 = true ↔ f.offset q ≤ f.age := by
  rw [reached, decide_eq_true_iff, add_zero]

end Follower

/-! ### Leaving LISTEN (R39) -/

theorem State.listenEnds_iff {s : State} {r : RowNumber} : s.listenEnds r = true ↔ s.cues[r].rowState = .listen
    ∧ s.follower.defines s.cues[r].position = true
    ∧ s.follower.offset s.cues[r].position + (s.follower.window : Int) < s.follower.age := by
  rw [State.listenEnds, Bool.and_eq_true, Bool.and_eq_true, decide_eq_true_eq, Follower.passed_iff, and_assoc]

/-- Settles O23: the row expires just where its window has passed. -/
theorem listenRowExpires : Obligations.ListenRowExpires := by
  refine ⟨fun f q => ⟨(f.offset_bounds q).1, (f.offset_bounds q).2, rfl, f.window_bounds.1, f.window_bounds.2,
    f.defines_iff q⟩, fun s r within => ?within, fun s r running listen defined passed => ?passed⟩
  case within =>
    have stays : s.takeListenExpiry r = s := by
      refine if_neg fun ends => ?_
      obtain ⟨listen, defined, passed⟩ := State.listenEnds_iff.mp ends
      exact absurd (within listen defined) (not_le.mpr passed)
    exact next_live_of_stays stays
  case passed =>
    rw [exec, execListenExpiry, State.live_of_running running, State.takeListenExpiry,
      if_pos (State.listenEnds_iff.mpr ⟨listen, defined, passed⟩)]
    rfl

end Sys2Proof.Machine

/-! The follower's commands and entries (03, R49 to R61): O24 to O30. -/

namespace Sys2Proof.Machine

-- One proof at a time, for the memory limit of the check.
set_option Elab.async false

/-! ### HYMN (R50, R51) -/

theorem hymnTranspositionCode_eq (d1 : Data12) : hymnTranspositionCode d1 = d1.toNat / 32 % 16 :=
  field_toNat d1 5 4

theorem hymnProfile_val (d1 : Data12) : (hymnProfile d1).val = d1.toNat / 512 := by
  have small := d1.isLt
  have bits : (hymnProfile d1).val = field d1 9 3 := rfl
  rw [bits, field_toNat]
  omega

theorem hymnFieldsAccepted_iff {d1 d2 : Data12} : hymnFieldsAccepted d1 d2 = true ↔
    d1.toNat / 32 % 16 ≤ 11 ∧ d1.toNat % 2 = 0 ∧ 30 ≤ d2.toNat ∧ d2.toNat ≤ 200 := by
  rw [hymnFieldsAccepted, Bool.and_eq_true, Bool.and_eq_true, hymnTranspositionCode_eq, bit_eq]
  simp only [decide_eq_true_eq, Bool.not_eq_true', decide_eq_false_iff_not]
  omega

/-- The profile that a stored row gives, field by field (R46; 09, row layouts). -/
theorem ProfileRow.profile_eq {row : ProfileRow} {lead : LeadLoft}
    (hlead : row.w2.toNat % 4 = 0 ∧ lead = .east ∨ row.w2.toNat % 4 = 1 ∧ lead = .west
      ∨ row.w2.toNat % 4 = 2 ∧ lead = .either) : row.profile = {
      bpmMin := row.w0.toNat % 256, bpmMax := row.w1.toNat % 256
      alpha := row.w2.toNat / 128, beta := row.w2.toNat / 4 % 32, leadLoft := lead
      k := row.w3.toNat / 256 % 8 + 1, engage := row.w3.toNat / 64 % 4 + 1
      silence := row.w3.toNat / 4 % 16 + 1, minStrength := row.w3.toNat % 4
      gate := row.w4.toNat / 256 + 1, fermata := row.w4.toNat / 16 % 16 + 1, starve := row.w4.toNat % 16 + 1
      pmin := 3840000 / (row.w1.toNat % 256), pmax := 3840000 / (row.w0.toNat % 256) } := by
  have alpha : field row.w2 7 5 = row.w2.toNat / 128 := by
    have := row.w2.isLt
    rw [field_toNat]
    omega
  have gate : field row.w4 8 4 = row.w4.toNat / 256 := by
    have := row.w4.isLt
    rw [field_toNat]
    omega
  have loft : row.leadLoft = some lead := by
    have code : field row.w2 0 2 = row.w2.toNat % 4 := by simp [field_toNat]
    rcases hlead with ⟨h, rfl⟩ | ⟨h, rfl⟩ | ⟨h, rfl⟩ <;> simp only [ProfileRow.leadLoft, code, h]
  simp only [ProfileRow.profile, ProfileRow.bpmMin, ProfileRow.bpmMax, ProfileRow.alpha, ProfileRow.beta, alpha, gate,
    loft, field_toNat, Option.getD_some, Config.tempoNumerator, Nat.reducePow, Nat.div_one]

section Hymn

variable {s : State} {d1 d2 : Data12} {rest : List Handed}

theorem exec_hymn_of_handed (running : s.Running) (handed : s.handed = .hymn d1 d2 :: rest) :
    exec .hymn s = .next (({ s with handed := rest } : State).hymn d1 d2) := by
  rw [exec, execHymn, State.live_of_running running]
  simp only [State.takeHymn, handed]

theorem State.hymn_of_accepted (idle : s.follower.mode = .idle) (accepted : hymnFieldsAccepted d1 d2 = true) :
    s.hymn d1 d2 = { s with
      follower := s.follower.hymn s.deviceTime s.tables.profile[hymnProfile d1].profile d1 d2
      highMark := -1 } := by
  rw [State.hymn, if_pos ⟨idle, accepted⟩]

theorem State.hymn_of_refused (refused : s.follower.mode ≠ .idle ∨ hymnFieldsAccepted d1 d2 = false) :
    s.hymn d1 d2 = s.refuse := by
  rw [State.hymn, if_neg]
  rintro ⟨idle, accepted⟩
  rcases refused with on | rejected
  · exact on idle
  · rw [rejected] at accepted
    cases accepted

end Hymn

/-- Settles O24: the profile row field by field, and the record that R51 gives. -/
theorem hymnAccepted : Obligations.HymnAccepted := by
  intro s d1 d2 rest i row lead p running handed idle hcode hspare hlow hhigh hi hrow hlead hp
  have accepted : hymnFieldsAccepted d1 d2 = true := hymnFieldsAccepted_iff.mpr ⟨hcode, hspare, hlow, hhigh⟩
  obtain rfl : hymnProfile d1 = i := Fin.ext ((hymnProfile_val d1).trans hi.symm)
  have profile : s.tables.profile[hymnProfile d1].profile = p :=
    (congrArg ProfileRow.profile hrow.symm).trans ((ProfileRow.profile_eq hlead).trans hp.symm)
  have taken : ({ s with handed := rest } : State).follower.mode = .idle := idle
  rw [exec_hymn_of_handed running handed, State.hymn_of_accepted taken accepted, profile, Follower.hymn,
    hymnTranspositionCode_eq]
  rfl

/-! ### START (R53) -/

section Start

variable {s : State} {d1 : Data12} {rest : List Handed}

theorem exec_start_of_handed (running : s.Running) (handed : s.handed = .start d1 :: rest) :
    exec .start s = .next (({ s with handed := rest } : State).start d1) := by
  rw [exec, execStart, State.live_of_running running]
  simp only [State.takeStart, handed]

theorem State.start_of_accepted {q : Nat} (waits : s.follower.mode = .countIn ∨ s.follower.mode = .starved)
    (head : s.headPosition = some q) : s.start d1 = (s.setFollower (s.follower.start s.deviceTime q d1)).armReached := by
  simp only [State.start, if_pos waits, head]

theorem State.start_of_refused (refused : s.rol = [] ∨ s.follower.mode ≠ .countIn ∧ s.follower.mode ≠ .starved) :
    s.start d1 = s.refuse := by
  unfold State.start
  split
  · next waits =>
    have none : s.headPosition = none := by
      have empty := refused.resolve_right fun h => waits.elim h.1 h.2
      simp [State.headPosition, empty]
    simp only [none]
  · rfl

end Start

/-- A time that lies `d1` frame times ahead (R2). -/
theorem Time.diff_ahead (now : Time) (d1 : Data12) : Time.diff now (now + d1.setWidth 24) = -(d1.toNat : Int) := by
  have small := d1.isLt
  have minus : now - (now + d1.setWidth 24) = -(d1.setWidth 24) := by bv_omega
  have width : (d1.setWidth 24).toNat = d1.toNat := by
    rw [BitVec.toNat_setWidth]
    omega
  rw [Time.diff, minus, BitVec.toInt_eq_toNat_cond, BitVec.toNat_neg, width]
  split <;> omega

/-- Settles O26: the clock on the head of the list. -/
theorem startAccepted : Obligations.StartAccepted := by
  intro s delay rest head tail running handed waits list
  have position : ({ s with handed := rest } : State).headPosition = some s.cues[head].position := by
    simp [State.headPosition, list]
  have taken : ({ s with handed := rest } : State).follower.mode = .countIn
      ∨ ({ s with handed := rest } : State).follower.mode = .starved := waits
  rw [exec_start_of_handed running handed, State.start_of_accepted taken position]
  simp only [State.setFollower, Follower.start, Follower.anchor, Time.diff_ahead]

/-! ### STOP and starvation (R41, R59, R61, R156) -/

theorem Port.quiet_eq (p : Port) : p.endWait.oweAllOff =
    if p.state = .off then p
    else if p.state = .waiting then
      { p with state := .active, waitingSince := none, offerDue := false, owedAllOff := true }
    else { p with owedAllOff := true } := by
  split
  · next off =>
    rw [Port.endWait_of_not (by simp [off]), Port.oweAllOff_of_off off]
  · next on =>
    split
    · next waiting =>
      rw [Port.endWait_of_waiting waiting]
      exact Port.oweAllOff_of_on nofun
    · next active => rw [Port.endWait_of_not active, Port.oweAllOff_of_on on]

/-- The four divisions quieted at once (R137, R156). -/
theorem State.forDivisions_quiet (s : State) : forDivisions State.quiet s = { s with
    held := Vector.replicate 4 none
    divisions := Vector.replicate 4 DivisionRecord.silent
    ports := quietPorts s } := by
  have quiet : ∀ d t, State.quiet d t = t.putChest d ⟨(t.chest d).port.endWait.oweAllOff, none, .silent⟩ :=
    fun d t => t.quiet_eq_setChest d
  have none : (Vector.ofFn fun _ : Division => (none : Option RowNumber)) = Vector.replicate 4 none :=
    ext_divisions _ _ fun d => by rw [ofFn_get, replicate_get]
  have silent : (Vector.ofFn fun _ : Division => DivisionRecord.silent) = Vector.replicate 4 DivisionRecord.silent :=
    ext_divisions _ _ fun d => by rw [ofFn_get, replicate_get]
  rw [forDivisions_chest (f := fun _ c => ⟨c.port.endWait.oweAllOff, .none, .silent⟩) quiet]
  simp only [none, silent, State.chest, Port.quiet_eq]
  rfl

section Stop

variable {s : State} {rest : List Handed}

theorem exec_stop_of_handed (running : s.Running) (handed : s.handed = .stop :: rest) :
    exec .stop s = .next ({ s with handed := rest } : State).stop := by
  rw [exec, execStop, State.live_of_running running]
  simp only [State.takeStop, handed]

theorem State.stop_of_refused (idle : s.follower.mode = .idle) : s.stop = s.refuse :=
  if_pos idle

end Stop

/-- Settles O27: the rows, the list and the record, with the four divisions quieted. -/
theorem stopAccepted : Obligations.StopAccepted := by
  intro s rest running handed on
  have taken : ({ s with handed := rest } : State).follower.mode ≠ .idle := on
  rw [exec_stop_of_handed running handed, State.stop_eq taken, State.forDivisions_quiet]
  rfl

/-! ### FOLLOW falls to LEAD (R55) -/

theorem State.deadlinePassed_iff {s : State} {t : Time} {span : Nat} :
    s.deadlinePassed t span = true ↔ 0 < Time.diff s.deviceTime (t + BitVec.ofNat 24 span) :=
  decide_eq_true_iff

theorem State.silenceFalls_iff {s : State} : s.silenceFalls = true ↔ s.follower.mode = .follow
    ∧ 0 < Time.diff s.deviceTime
      (s.follower.lastMatch + BitVec.ofNat 24 (s.follower.profile.silence * s.follower.period / 16)) := by
  rw [State.silenceFalls, Bool.and_eq_true, decide_eq_true_eq, State.deadlinePassed_iff]
  rfl

/-- Settles O28: FOLLOW falls where its silence span has passed. -/
theorem silenceFallsToLead : Obligations.SilenceFallsToLead := by
  refine ⟨fun s within => ?within, fun s running follow passed => ?passed⟩
  case within =>
    have stays : s.takeSilenceFall = s := by
      refine if_neg fun falls => ?_
      obtain ⟨follow, passed⟩ := State.silenceFalls_iff.mp falls
      exact absurd (within follow) (not_le.mpr passed)
    exact next_live_of_stays stays
  case passed =>
    rw [exec, execSilenceFall, State.live_of_running running, State.takeSilenceFall,
      if_pos (State.silenceFalls_iff.mpr ⟨follow, passed⟩)]
    rfl

/-! ### Freeze entry (R56, R95) -/

theorem Mode.running_iff {m : Mode} : m.running = true ↔ m = .lead ∨ m = .follow := by
  cases m <;> simp [Mode.running]

namespace State

variable {s : State} {r x : RowNumber}

theorem fermataReached_iff : s.fermataReached x = true ↔ s.cues[x].rowState ≠ .empty ∧ s.cues[x].fermata = true
    ∧ s.follower.lastFreeze < (s.cues[x].position : Int) ∧ s.follower.offset s.cues[x].position ≤ s.follower.age := by
  simp only [fermataReached, Bool.and_eq_true, decide_eq_true_eq, Follower.reached_zero_iff, and_assoc]

/-- One comparison of R56 is one step of the search for a least position. -/
theorem lower_eq_argAux (s : State) :
    s.lower = List.argAux fun r b => s.cues[r].position < s.cues[b].position := by
  funext best r
  cases best <;> rfl

theorem freezeRow_eq_argmin (runs : s.follower.mode.running = true) :
    s.freezeRow = (allRows.filter s.fermataReached).argmin fun r => s.cues[r].position := by
  rw [freezeRow, if_pos runs, lower_eq_argAux, List.argmin]

theorem freezeRow_eq_none (h : s.follower.mode.running = true → ∀ x, s.fermataReached x = false) :
    s.freezeRow = none := by
  by_cases runs : s.follower.mode.running = true
  · rw [freezeRow_eq_argmin runs, List.argmin_eq_none, List.filter_eq_nil_iff]
    intro x _
    rw [h runs x]
    nofun
  · exact if_neg runs

theorem freezeRow_eq_some (runs : s.follower.mode.running = true) (reached : s.fermataReached r = true)
    (least : ∀ x, s.fermataReached x = true → x ≠ r → s.cues[r].position < s.cues[x].position) :
    s.freezeRow = some r := by
  have mem : ∀ x, x ∈ allRows.filter s.fermataReached ↔ s.fermataReached x = true := by simp [mem_allRows]
  rw [freezeRow_eq_argmin runs]
  cases chosen : (allRows.filter s.fermataReached).argmin fun r => s.cues[r].position with
  | none =>
    rw [List.argmin_eq_none] at chosen
    exact absurd ((mem r).mpr reached) (by simp [chosen])
  | some x =>
    by_contra other
    have lower := least x ((mem x).mp (List.argmin_mem chosen)) (fun same => other (same ▸ rfl))
    have upper : s.cues[x].position ≤ s.cues[r].position :=
      List.le_of_mem_argmin (f := fun r => s.cues[r].position) ((mem r).mpr reached) chosen
    omega

end State

/-- Settles O29: the reached fermata row of least position, or none. -/
theorem freezeEntered : Obligations.FreezeEntered := by
  refine ⟨fun s within => ?within, fun s r q before reached running hmode hreached hq hr least => ?entered⟩
  case within =>
    have none : s.freezeRow = none := by
      refine State.freezeRow_eq_none fun runs x => Bool.eq_false_iff.mpr fun fermata => ?_
      obtain ⟨occupied, flag, past, reached⟩ := State.fermataReached_iff.mp fermata
      exact absurd (within (Mode.running_iff.mp runs) x occupied flag past) (not_lt.mpr reached)
    have stays : s.takeFreezeEntry = s := by simp only [State.takeFreezeEntry, none]
    exact next_live_of_stays stays
  case entered =>
    have same : ∀ x, s.fermataReached x = true ↔ reached x := fun x => State.fermataReached_iff.trans (hreached x).symm
    have runs : s.follower.mode.running = true := Mode.running_iff.mpr (hmode.imp And.left And.left)
    have chosen : s.freezeRow = some r := State.freezeRow_eq_some runs ((same r).mpr hr)
      fun x hx other => hq ▸ least x ((same x).mp hx) other
    have was : s.follower.mode.asRunning = before := by
      rcases hmode with ⟨h, rfl⟩ | ⟨h, rfl⟩ <;> rw [h] <;> rfl
    rw [exec, execFreezeEntry, State.live_of_running running]
    simp only [State.takeFreezeEntry, chosen, State.freezeOn, was, ← hq]
    rfl

/-! ### Starvation entry (R59) -/

namespace State

variable {s : State}

theorem waiting_eq_false : s.waiting = false ↔ ∀ x ∈ s.rol, s.cues[x].rowState ≠ .pending ∧ s.cues[x].rowState ≠ .gated := by
  simp [waiting]

theorem starves_iff : s.starves = true ↔ (s.follower.mode = .lead ∨ s.follower.mode = .follow)
    ∧ (∀ x ∈ s.rol, s.cues[x].rowState ≠ .pending ∧ s.cues[x].rowState ≠ .gated)
    ∧ s.follower.offset (s.follower.lastReleased.getD s.follower.ba)
      + ((s.follower.profile.starve * s.follower.period / 16 : Nat) : Int) < s.follower.age := by
  rw [starves, Bool.and_eq_true, Bool.and_eq_true, Mode.running_iff, Follower.passed_iff, Bool.not_eq_true',
    waiting_eq_false, and_assoc]
  rfl

end State

/-- Settles O30: the three conditions of R59, and the four divisions quieted. -/
theorem starvationEntered : Obligations.StarvationEntered := by
  refine ⟨fun s within => ?within, fun s r running hmode none hr passed => ?entered⟩
  case within =>
    have stays : s.takeStarvationEntry = s := by
      refine if_neg fun starves => ?_
      obtain ⟨mode, none, passed⟩ := State.starves_iff.mp starves
      exact absurd (within mode none) (not_le.mpr passed)
    exact next_live_of_stays stays
  case entered =>
    subst hr
    rw [exec, execStarvationEntry, State.live_of_running running, State.takeStarvationEntry,
      if_pos (State.starves_iff.mpr ⟨hmode, none, passed⟩), State.forDivisions_quiet]
    rfl

end Sys2Proof.Machine

/-! The refusals of the commands (R49, R50, R53, R61, R86, R153, R176): O25. -/

namespace Sys2Proof.Machine

-- One proof at a time, for the memory limit of the check.
set_option Elab.async false

/-- The events that take the message first in line (R13). -/
def messageEvents : List Instr := [.chordMessage, .read, .hymn, .start, .stop, .gate, .flush, .clear]

section Front

variable {s : State} {c : Instr} {d1 : Data12} {rest : List Handed}

theorem exec_messageEvent (message : c ∈ messageEvents) (s : State) :
    exec c s = .next (s.live fun s => s.takeOwn c) := by
  fin_cases message <;> rfl

/-- An event finds nothing to take when another kind of message is first in line. -/
theorem State.takeOwn_of_other (message : c ∈ messageEvents) (other : ∀ h rest, s.handed = h :: rest → h.event ≠ c) :
    s.takeOwn c = s := by
  fin_cases message
  all_goals
    simp only [takeOwn, takeChordMessage, takeRead, takeHymn, takeStart, takeStop, takeGate, takeFlush, takeClear]
    split
    · next handed => exact absurd rfl (other _ _ handed)
    · rfl

theorem exec_gate_of_handed (running : s.Running) (handed : s.handed = .gate :: rest) :
    exec .gate s = .next ({ s with handed := rest } : State).gate := by
  rw [exec, execGate, State.live_of_running running]
  simp only [State.takeGate, handed]

theorem exec_flush_of_handed (running : s.Running) (handed : s.handed = .flush d1 :: rest) :
    exec .flush s = .next (({ s with handed := rest } : State).flush d1) := by
  rw [exec, execFlush, State.live_of_running running]
  simp only [State.takeFlush, handed]

theorem exec_clear_of_handed (running : s.Running) (handed : s.handed = .clear d1 :: rest) :
    exec .clear s = .next (({ s with handed := rest } : State).clear d1) := by
  rw [exec, execClear, State.live_of_running running]
  simp only [State.takeClear, handed]

end Front

namespace State

variable {s : State} {p : Data12}

theorem earliestGated_eq_none : s.earliestGated = none ↔ ∀ r ∈ s.rol, s.cues[r].rowState ≠ .gated := by
  simp [earliestGated]

theorem gate_of_refused (refused : s.follower.mode = .idle ∨ s.follower.mode = .countIn ∨ s.follower.mode = .starved
    ∨ ∀ r ∈ s.rol, s.cues[r].rowState ≠ .gated) : s.gate = s.refuse := by
  unfold gate
  cases mode : s.follower.mode with
  | idle | countIn | starved => rfl
  | lead | follow | freeze =>
    simp only [mode, reduceCtorEq, false_or] at refused
    simp only [earliestGated_eq_none.mpr refused]

theorem flush_of_refused (wide : 16 ≤ p.toNat) : s.flush p = s.refuse := by
  have high : field p 4 8 ≠ 0 := by
    have := p.isLt
    rw [field_toNat]
    omega
  exact if_neg high

theorem clear_of_refused (none : p.toNat = 0 ∨ 4 ≤ p.toNat) : s.clear p = s.refuse := by
  unfold clear
  split
  case h_4 => rfl
  all_goals omega

end State

/-- Settles O25: an event that does not take the front message changes nothing, and each refusal is counted once. -/
theorem commandsRefused : Obligations.CommandsRefused := by
  refine ⟨fun s c message other => ?other, fun s rest d1 d2 h running handed refusal => ?refused⟩
  case other =>
    rw [exec_messageEvent message]
    exact next_live_of_stays (State.takeOwn_of_other message other)
  case refused =>
    rcases refusal with ⟨rfl, refused⟩ | ⟨rfl, refused⟩ | ⟨rfl, idle⟩ | ⟨rfl, refused⟩ | ⟨rfl, wide⟩ | ⟨rfl, none⟩
    · have fields : s.follower.mode ≠ .idle ∨ hymnFieldsAccepted d1 d2 = false := by
        refine refused.imp_right fun range => Bool.eq_false_iff.mpr fun accepted => ?_
        have := hymnFieldsAccepted_iff.mp accepted
        omega
      exact (exec_hymn_of_handed running handed).trans (congrArg _ (State.hymn_of_refused fields))
    · exact (exec_start_of_handed running handed).trans (congrArg _ (State.start_of_refused refused))
    · exact (exec_stop_of_handed running handed).trans (congrArg _ (State.stop_of_refused idle))
    · exact (exec_gate_of_handed running handed).trans (congrArg _ (State.gate_of_refused refused))
    · exact (exec_flush_of_handed running handed).trans (congrArg _ (State.flush_of_refused wide))
    · exact (exec_clear_of_handed running handed).trans (congrArg _ (State.clear_of_refused none))

end Sys2Proof.Machine

/-! Gates, arming and the ends of a freeze that are not onsets (05, R82 to R98): O31 to O33. -/

namespace Sys2Proof.Machine

-- One proof at a time, for the memory limit of the check.
set_option Elab.async false

/-! ### GATE (R86, R87, R93, R97) -/

/-- A return to LEAD engages at once where the count meets the engage count (R54, R97). -/
theorem Follower.thawByGate_eq (f : Follower) (q : Nat) (before : Running) : f.thawByGate q before = { f with
    prevUpdate := some q
    freeze := none
    mode := if before = .lead ∧ f.matchCount < f.profile.engage then .lead else .follow } := by
  rw [thawByGate, engage_eq]
  cases before with
  | follow => rfl
  | lead => simp only [Running.mode, true_and, ← not_lt, ite_not]

namespace State

variable {s : State} {r : RowNumber} {z : FreezeRecord}

theorem gate_of_running (runs : s.follower.mode = .lead ∨ s.follower.mode = .follow)
    (earliest : s.earliestGated = some r) : s.gate = (s.openGateNow r).armReached := by
  rcases runs with mode | mode <;> simp only [gate, mode, earliest]

theorem gate_of_freeze (freezes : s.follower.mode = .freeze) (record : s.follower.freeze = some z)
    (earliest : s.earliestGated = some r) : s.gate =
      if s.cues[r].position ≤ z.position then (s.openGateNow r).armReached
      else ((s.openGateNow r).setFollower
        ((s.openGateNow r).follower.thawByGate s.cues[r].position z.before)).armReached := by
  simp only [gate, freezes, earliest, record]

end State

/-- Settles O31: the earliest GATED row opens at now, and past the freeze position the freeze ends. -/
theorem gateOpensEarliestRow : Obligations.GateOpensEarliestRow := by
  refine ⟨fun s rest r running handed runs earliest => ?running,
    fun s rest r z running handed freezes record earliest => ⟨fun before => ?before, fun after => ?after⟩⟩
  all_goals
    have taken : ({ s with handed := rest } : State).earliestGated = some r := earliest
    have gated : ({ s with handed := rest } : State).cues[r].rowState = .gated := State.earliestGated_gated earliest
    rw [exec_gate_of_handed running handed]
  case running =>
    rw [State.gate_of_running (s := { s with handed := rest }) runs taken, State.openGateNow_eq gated]
    rfl
  case before =>
    rw [State.gate_of_freeze (s := { s with handed := rest }) freezes record taken, if_pos before,
      State.openGateNow_eq gated]
    rfl
  case after =>
    rw [State.gate_of_freeze (s := { s with handed := rest }) freezes record taken, if_neg (not_le.mpr after),
      State.openGateNow_eq gated, Follower.thawByGate_eq]
    rfl

/-! ### Arming (R83) -/

namespace State

variable {s : State} {r : RowNumber}

theorem armRow_eq_some_iff : s.armRow = some r ↔ s.earliestGated = some r
    ∧ (s.follower.mode = .lead ∨ s.follower.mode = .follow ∨ s.follower.mode = .freeze)
    ∧ s.follower.defines s.cues[r].position = true ∧ s.follower.offset s.cues[r].position ≤ s.follower.age
    ∧ s.cues[r].armed = none := by
  unfold armRow
  cases earliest : s.earliestGated with
  | none => simp
  | some x =>
    by_cases same : x = r
    · subst same
      simp [Mode.playing_iff, Follower.reached_zero_iff, and_assoc]
    · simp [same]

theorem armReached_of_armRow (row : s.armRow = some r) :
    s.armReached = { s with cues := s.cues.set r { s.cues[r] with armed := some s.deviceTime } } := by
  simp only [armReached, row]
  rfl

theorem armReached_of_none (none : s.armRow = none) : s.armReached = s := by
  simp only [armReached, none]

/-! ### Gate expiry (R84, R89, R90) -/

theorem expiredGate_eq_some_iff {m : GateMode} : s.expiredGate m = some r ↔ s.earliestGated = some r
    ∧ s.cues[r].gateMode = m ∧ ∃ t, s.cues[r].armed = some t ∧ 0 < Time.diff s.deviceTime
      (t + BitVec.ofNat 24 (s.follower.profile.gate * s.follower.period / 16)) := by
  unfold expiredGate
  cases earliest : s.earliestGated with
  | none => simp
  | some x =>
    by_cases same : x = r
    · subst same
      cases armed : s.cues[x].armed with
      | none => simp [-Fin.getElem_fin, armed]
      | some t => simp [-Fin.getElem_fin, armed, deadlinePassed_iff, Follower.gateLimit]
    · cases armed : s.cues[x].armed <;> simp [-Fin.getElem_fin, armed, same]

theorem expiredGate_eq_none {m : GateMode} (within : ∀ (r : RowNumber) (t : Time), s.earliestGated = some r →
    s.cues[r].armed = some t → s.cues[r].gateMode = m →
    Time.diff s.deviceTime (t + BitVec.ofNat 24 (s.follower.profile.gate * s.follower.period / 16)) ≤ 0) :
    s.expiredGate m = none := by
  refine Option.eq_none_iff_forall_ne_some.mpr fun r expired => ?_
  obtain ⟨earliest, mode, t, armed, passed⟩ := expiredGate_eq_some_iff.mp expired
  exact absurd (within r t earliest armed mode) (not_le.mpr passed)

theorem dropRow_eq (s : State) (r : RowNumber) : s.dropRow r = { s with
    cues := s.cues.set r { s.cues[r] with rowState := .empty, armed := none }
    rol := s.rol.erase r
    follower := anchoredNow s s.cues[r].position } := by
  have position : (s.setRow r s.cues[r].emptied).cues[r].position = s.cues[r].position := by
    rw [setRow_get, if_pos rfl, CueRow.emptied]
  have time : (s.setRow r s.cues[r].emptied).deviceTime = s.deviceTime := rfl
  simp only [dropRow, anchorOn, position, setFollower, Follower.anchor, time, Time.diff_self]
  rfl

end State

/-- Settles O32: arming by its condition, and the two gate expiries. -/
theorem gatedRowArmsAndExpires : Obligations.GatedRowArmsAndExpires := by
  refine ⟨fun s => ⟨fun r mode earliest defined reached unarmed => ?arms, fun short => ?stays,
      fun running => by rw [exec, execArm, State.live_of_running running], fun r => Iff.rfl⟩,
    fun s => ⟨fun within => ?noSound, fun within => ?noDrop⟩,
    fun s r t running earliest armed passed => ⟨fun mode => ?sound, fun mode => ?drop⟩⟩
  case arms => exact State.armReached_of_armRow (State.armRow_eq_some_iff.mpr ⟨earliest, mode, defined, reached, unarmed⟩)
  case stays =>
    refine State.armReached_of_none (Option.eq_none_iff_forall_ne_some.mpr fun r row => ?_)
    obtain ⟨earliest, mode, defined, reached, unarmed⟩ := State.armRow_eq_some_iff.mp row
    rcases short r earliest with h | h | h | h | h | h
    · simp [h] at mode
    · simp [h] at mode
    · simp [h] at mode
    · exact Bool.false_ne_true (h.symm.trans defined)
    · exact absurd reached (not_le.mpr h)
    · exact absurd h (by rw [unarmed]; nofun)
  case noSound =>
    have stays : s.takeGateSoundExpiry = s := by simp only [State.takeGateSoundExpiry, State.expiredGate_eq_none within]
    exact next_live_of_stays stays
  case noDrop =>
    have stays : s.takeGateDropExpiry = s := by simp only [State.takeGateDropExpiry, State.expiredGate_eq_none within]
    exact next_live_of_stays stays
  case sound =>
    have expired := State.expiredGate_eq_some_iff.mpr ⟨earliest, mode, t, armed, passed⟩
    have gated : s.noteGateExpiry.cues[r].rowState = .gated := State.earliestGated_gated earliest
    rw [exec, execGateSoundExpiry, State.live_of_running running]
    simp only [State.takeGateSoundExpiry, expired]
    rw [State.openGateNow_eq gated]
    rfl
  case drop =>
    have expired := State.expiredGate_eq_some_iff.mpr ⟨earliest, mode, t, armed, passed⟩
    rw [exec, execGateDropExpiry, State.live_of_running running]
    simp only [State.takeGateDropExpiry, expired]
    rw [State.dropRow_eq]
    rfl

/-! ### Fermata expiry (R98) -/

namespace State

variable {s : State} {z : FreezeRecord}

theorem expiredFreeze_eq_some_iff : s.expiredFreeze = some z ↔ s.follower.mode = .freeze ∧ s.follower.freeze = some z
    ∧ 0 < Time.diff s.deviceTime
      (z.start + BitVec.ofNat 24 (s.follower.profile.fermata * s.follower.period / 16)) := by
  unfold expiredFreeze
  cases record : s.follower.freeze with
  | none => simp
  | some y =>
    by_cases same : y = z
    · subst same
      simp [deadlinePassed_iff, Follower.fermataLimit]
    · simp [same]

theorem thawPosition_eq {q : Nat}
    (hq : (∃ r, s.rol.find? (fun x => decide (z.position < s.cues[x].position)) = some r ∧ q = s.cues[r].position)
      ∨ (∀ x ∈ s.rol, s.cues[x].position ≤ z.position) ∧ q = z.position + 1) : s.thawPosition z = q := by
  unfold thawPosition firstAfter
  rcases hq with ⟨r, first, rfl⟩ | ⟨before, rfl⟩
  · simp only [first]
  · have none : s.rol.find? (fun x => decide (z.position < s.cues[x].position)) = none := by
      simpa using before
    simp only [none]

end State

/-- Settles O33: the clock re-anchored where the list goes on after the freeze. -/
theorem fermataExpires : Obligations.FermataExpires := by
  refine ⟨fun s within => ?within, fun s z q running freezes record passed hq => ?passed⟩
  case within =>
    have none : s.expiredFreeze = none := by
      refine Option.eq_none_iff_forall_ne_some.mpr fun z expired => ?_
      obtain ⟨freezes, record, passed⟩ := State.expiredFreeze_eq_some_iff.mp expired
      exact absurd (within z freezes record) (not_le.mpr passed)
    have stays : s.takeFermataExpiry = s := by simp only [State.takeFermataExpiry, none]
    exact next_live_of_stays stays
  case passed =>
    have expired := State.expiredFreeze_eq_some_iff.mpr ⟨freezes, record, passed⟩
    rw [exec, execFermataExpiry, State.live_of_running running]
    simp only [State.takeFermataExpiry, expired, State.thawPosition_eq hq, State.setFollower, Follower.thawByExpiry,
      Follower.anchor, Time.diff_self]
    rfl

end Sys2Proof.Machine

/-! Onsets (04) and the waits they end (R62 to R79, R96, R101): O34, O36, O38 to O40. -/

namespace Sys2Proof.Machine

-- One proof at a time, for the memory limit of the check.
set_option Elab.async false

/-! ### The follower's record after an onset (R54, R72 to R75, R85, R96, R101) -/

/-- Engagement, for a follower that runs. -/
theorem Mode.engaged_eq {m : Mode} (runs : m = .lead ∨ m = .follow) (engage count : Nat) :
    (if m = .lead ∧ engage ≤ count then Mode.follow else m) = if m = .lead ∧ count < engage then .lead else .follow := by
  rcases runs with rfl | rfl
  · simp only [true_and, ← not_lt, ite_not]
  · rfl

namespace Follower

variable {f : Follower} (now t : Time) (q : Nat)

theorem correct_eq (runs : f.mode = .lead ∨ f.mode = .follow) (e : Int) {ta : Time} {n : Nat}
    (hta : ta = f.predicted q + BitVec.ofInt 24 (Int.tdiv (e * (f.profile.alpha : Int)) 16))
    (hn : n = min (f.matchCount + 1) 4) : f.correct now t q e = { f with
      ta := ta
      ba := q
      age := Time.diff now ta
      period := f.correctedPeriod q e
      prevUpdate := some q
      matchCount := n
      lastMatch := t
      mode := if f.mode = .lead ∧ n < f.profile.engage then .lead else .follow } := by
  rw [correct, engage_eq]
  simp only [anchor, countMatch, Mode.engaged_eq runs, ← hta, ← hn]

theorem openByOnset_eq (runs : f.mode = .lead ∨ f.mode = .follow) {n : Nat} (hn : n = min (f.matchCount + 1) 4) :
    f.openByOnset now t q = { f with
      ta := t
      ba := q
      age := Time.diff now t
      prevUpdate := some q
      matchCount := n
      lastMatch := t
      mode := if f.mode = .lead ∧ n < f.profile.engage then .lead else .follow } := by
  rw [openByOnset, engage_eq]
  simp only [anchor, countMatch, Mode.engaged_eq runs, ← hn]

theorem exitByOnset_eq (mode : Mode) : f.exitByOnset now t q mode = { f with
    ta := t
    ba := q
    age := Time.diff now t
    prevUpdate := some q
    matchCount := 1
    lastMatch := t
    freeze := none
    mode := if mode = .lead ∧ f.profile.engage ≤ 1 then .follow else mode } := by
  rw [exitByOnset, engage_eq]
  rfl

end Follower

/-! ### An onset screened, by follower state (R62 to R65) -/

theorem LeadLoft.admits_iff {x : LeadLoft} {l : Loft} :
    x.admits l = true ↔ x = .either ∨ x = .east ∧ l = .east ∨ x = .west ∧ l = .west := by
  cases x <;> cases l <;> decide

/-- An onset record of loft `l` and adjusted time `t`, strong enough for the profile. -/
structure State.Heard (s : State) (o : Value6) (l : Loft) (t : Time) : Prop where
  loft : onsetLoft o = l
  time : s.adjustedTime o = t
  strong : s.follower.profile.minStrength ≤ onsetStrength o

namespace State

variable {s : State} {o : Value6} {l : Loft} {t : Time} {r : RowNumber} {z : FreezeRecord}

theorem exec_onset_of_locked (locked : s.Locked) (o : Value6) : exec (.onset o) s = .next (s.takeOnset o) := by
  rw [exec, execOnset, decoded_of_locked locked]

theorem heard_of (hl : l = if o.toNat < 32 then .east else .west) (ht : t = s.adjustedTime o)
    (strong : s.follower.profile.minStrength ≤ o.toNat / 8 % 4) : s.Heard o l t :=
  ⟨(onsetLoft_eq o).trans hl.symm, ht.symm, (onsetStrength_eq o).symm ▸ strong⟩

theorem takeOnset_of_idle (idle : s.follower.mode = .idle) : s.takeOnset o = s := if_pos idle

theorem takeOnset_of_weak (weak : onsetStrength o < s.follower.profile.minStrength) : s.takeOnset o = s := by
  unfold takeOnset
  dsimp only
  rw [if_pos weak, ite_self]

theorem takeOnset_of_countIn (heard : s.Heard o l t) (waits : s.follower.mode = .countIn) :
    s.takeOnset o = s.raise Counter.unmatchedOnsets := by
  simp only [takeOnset, waits, if_neg (not_lt.mpr heard.strong), reduceCtorEq, if_false]

theorem takeOnset_of_running (heard : s.Heard o l t) (runs : s.follower.mode = .lead ∨ s.follower.mode = .follow) :
    s.takeOnset o = s.onsetRunning (s.follower.profile.leadLoft.admits l) l t := by
  rcases runs with mode | mode <;>
    simp only [takeOnset, mode, if_neg (not_lt.mpr heard.strong), heard.loft, heard.time, reduceCtorEq, if_false]

theorem takeOnset_of_freeze (heard : s.Heard o l t) (freezes : s.follower.mode = .freeze)
    (record : s.follower.freeze = some z) :
    s.takeOnset o = s.onsetFrozen z (s.follower.profile.leadLoft.admits l) l t := by
  simp only [takeOnset, freezes, record, if_neg (not_lt.mpr heard.strong), heard.loft, heard.time, reduceCtorEq, if_false]

theorem takeOnset_of_starved (heard : s.Heard o l t) (starved : s.follower.mode = .starved) :
    s.takeOnset o = s.onsetStarved (s.follower.profile.leadLoft.admits l) l t := by
  simp only [takeOnset, starved, if_neg (not_lt.mpr heard.strong), heard.loft, heard.time, reduceCtorEq, if_false]

/-! ### Adjusted time and distance (R44, R63) -/

theorem delay_eq (s : State) (o : Value6) : s.delay (onsetLoft o)
    = (if o.toNat < 32 then s.tables.loft[0] else s.tables.loft[1]).toNat % 512 := by
  rw [onsetLoft_eq]
  split <;> simp [delay, loftDelay, field_toNat]

theorem adjustedTime_eq (s : State) (o : Value6) : s.adjustedTime o = s.deviceTime - BitVec.ofNat 24 (o.toNat % 8
    + (if o.toNat < 32 then s.tables.loft[0] else s.tables.loft[1]).toNat % 512) := by
  rw [adjustedTime, onsetOffset_eq, delay_eq]

/-- A time that lies `n` frame times behind (R2). -/
theorem diff_behind (now : Time) {n : Nat} (near : n < 2 ^ 23) : Time.diff now (now - BitVec.ofNat 24 n) = (n : Int) := by
  have back : now - (now - BitVec.ofNat 24 n) = BitVec.ofNat 24 n := by bv_omega
  rw [Time.diff, back, BitVec.toInt_eq_toNat_cond, BitVec.toNat_ofNat]
  omega

theorem distance_eq (s : State) (o : Value6) (r : RowNumber) : s.distance (s.adjustedTime o) r = s.follower.age
    - ((o.toNat % 8 + (if o.toNat < 32 then s.tables.loft[0] else s.tables.loft[1]).toNat % 512 : Nat) : Int)
    - ((s.cues[r].position : Int) - (s.follower.ba : Int)) * (s.follower.period : Int) / 64 := by
  have near : o.toNat % 8 + (if o.toNat < 32 then s.tables.loft[0] else s.tables.loft[1]).toNat % 512 < 2 ^ 23 := by omega
  rw [distance, ageOf, adjustedTime_eq, diff_behind _ near]
  rfl

/-! ### What an onset does (R68 to R71, R76 to R79, R96, R101) -/

theorem unmatched_eq (s : State) (lead : Bool) : s.unmatched lead = { s with
    counters := (s.raise Counter.unmatchedOnsets).counters
    follower := { s.follower with matchCount := if lead then 0 else s.follower.matchCount } } := by
  cases lead <;> rfl

theorem markOnly_eq (s : State) (r : RowNumber) (l : Loft) : s.markOnly r l = { s with
    cues := s.cues.set r (s.cues[r].setMark l)
    counters := (s.raise Counter.otherMatches).counters } :=
  rfl

theorem leadMatch_eq (s : State) (r : RowNumber) (l : Loft) : s.leadMatch r l = { s with
    cues := s.cues.set r (s.cues[r].setMark l)
    updateMarks := s.updateMarks.set r true
    counters := (s.raise Counter.leadMatches).counters } :=
  rfl

theorem openRow_leadMatch (s : State) (r : RowNumber) (l : Loft) : (s.leadMatch r l).openRow r = { s with
    cues := s.cues.set r (if s.cues[r].rowState = .gated then
      { s.cues[r].setMark l with rowState := .pending, armed := none } else s.cues[r].setMark l)
    updateMarks := s.updateMarks.set r true
    counters := (s.raise Counter.leadMatches).counters } := by
  have row : (s.leadMatch r l).cues[r] = s.cues[r].setMark l := by
    rw [leadMatch_eq]
    exact (s.setRow_get r r _).trans (if_pos rfl)
  have standing : (s.cues[r].setMark l).rowState = s.cues[r].rowState := by cases l <;> rfl
  rw [openRow, row, standing]
  split
  · rw [leadMatch_eq, setRow, Vector.set_set]
    rfl
  · rfl

theorem exitOn_eq (s : State) (l : Loft) (t : Time) (r : RowNumber) (mode : Mode) :
    s.exitOn l t r mode = State.armReached { s with
      cues := s.cues.set r (if s.cues[r].rowState = .gated then
        { s.cues[r].setMark l with rowState := .pending, armed := none } else s.cues[r].setMark l)
      updateMarks := s.updateMarks.set r true
      counters := (s.raise Counter.leadMatches).counters
      follower := { s.follower with
        ta := t
        ba := s.cues[r].position
        age := Time.diff s.deviceTime t
        prevUpdate := some s.cues[r].position
        matchCount := 1
        lastMatch := t
        freeze := none
        mode := if mode = .lead ∧ s.follower.profile.engage ≤ 1 then .follow else mode } } := by
  rw [exitOn, openRow_leadMatch, Follower.exitByOnset_eq]
  rfl

theorem onsetRunning_of_chosen {lead : Bool} (chosen : s.choose l t = some r) :
    s.onsetRunning lead l t = s.matchRunning lead l t r := by
  simp only [onsetRunning, chosen]

theorem onsetRunning_of_none {lead : Bool} (none : s.choose l t = none) : s.onsetRunning lead l t = s.unmatched lead := by
  simp only [onsetRunning, none]

theorem onsetFrozen_of_chosen {lead : Bool} (chosen : s.chooseFrozen l t z.position = some r) :
    s.onsetFrozen z lead l t = s.markOnly r l := by
  simp only [onsetFrozen, chosen]

theorem onsetFrozen_of_exit (none : s.chooseFrozen l t z.position = none) (exit : s.freezeExit l z.position = some r) :
    s.onsetFrozen z true l t = s.exitOn l t r z.before.mode := by
  simp only [onsetFrozen, none, exit, if_true]

theorem onsetFrozen_of_noExit {lead : Bool} (none : s.chooseFrozen l t z.position = none)
    (noExit : lead = false ∨ s.freezeExit l z.position = .none) :
    s.onsetFrozen z lead l t = s.raise Counter.unmatchedOnsets := by
  rcases noExit with rfl | noExit
  · simp only [onsetFrozen, none, Bool.false_eq_true, if_false]
  · simp only [onsetFrozen, none, noExit, ite_self]

theorem onsetStarved_of_exit (exit : s.starvationExit l = some r) : s.onsetStarved true l t = s.exitOn l t r .lead := by
  simp only [onsetStarved, exit, if_true]

theorem onsetStarved_of_noExit {lead : Bool} (noExit : lead = false ∨ s.starvationExit l = none) :
    s.onsetStarved lead l t = s.unmatched lead := by
  cases lead with
  | false => rfl
  | true => simp only [onsetStarved, noExit.resolve_left (Bool.true_eq_false ▸ id), if_true]

/-! ### Exit candidates (R77, R79) -/

theorem awaits_eq_false {c : CueRow} (h : c.syllable = true → c.mark l = true) : c.awaits l = false := by
  refine Bool.eq_false_iff.mpr fun waits => ?_
  obtain ⟨syllable, unmarked⟩ := (CueRow.awaits_iff c l).mp waits
  exact Bool.false_ne_true (unmarked.symm.trans (h syllable))

theorem starvationExit_eq_none (marked : ∀ x ∈ s.rol, s.cues[x].syllable = true → s.cues[x].mark l = true) :
    s.starvationExit l = none :=
  firstAwaiting_none.mpr fun x mem => awaits_eq_false (marked x mem)

theorem freezeExit_eq_none {f : Nat} (marked : ∀ x ∈ s.rol, f < s.cues[x].position → s.cues[x].syllable = true →
    s.cues[x].mark l = true) : s.freezeExit l f = none := by
  refine (freezeExit_cases s l f).elim id fun first => first.trans (firstAwaiting_none.mpr fun x mem => ?_)
  obtain ⟨mem, after⟩ := List.mem_filter.mp mem
  exact awaits_eq_false (marked x mem (of_decide_eq_true after))

/-- The first awaiting row after the freeze position, on the list itself. -/
theorem firstAwaiting_filter (s : State) (l : Loft) (f : Nat) :
    s.firstAwaiting l (s.rol.filter fun r => decide (f < s.cues[r].position))
      = s.rol.find? fun x => decide (f < s.cues[x].position) && s.cues[x].syllable && !s.cues[x].mark l := by
  rw [firstAwaiting, List.find?_filter]
  refine congrArg (fun p => List.find? p s.rol) (funext fun x => ?_)
  rw [CueRow.awaits, Bool.and_assoc]
  simp

end State

/-! ### The obligations -/

/-- Settles O34: the screen, the unmatched onsets by follower state, and the measures of R63. -/
theorem onsetIgnoredOrUnmatched : Obligations.OnsetIgnoredOrUnmatched := by
  refine ⟨fun s o l t lead locked hl ht hlead => ⟨fun screened => ?screened, fun strong =>
      ⟨fun waits => ?countIn, fun runs none => ?running, fun z freezes record none noExit => ?frozen,
        fun starved noExit => ?starved⟩⟩,
    fun x l => LeadLoft.admits_iff, fun s o r => ⟨s.adjustedTime_eq o, s.distance_eq o r⟩⟩
  all_goals
    subst hlead
    rw [State.exec_onset_of_locked locked]
  case screened =>
    rw [← onsetStrength_eq] at screened
    exact congrArg _ (screened.elim State.takeOnset_of_idle State.takeOnset_of_weak)
  all_goals have heard := State.heard_of hl ht strong
  case countIn => rw [State.takeOnset_of_countIn heard waits]
  case running => rw [State.takeOnset_of_running heard runs, State.onsetRunning_of_none none, State.unmatched_eq]
  case frozen =>
    rw [State.takeOnset_of_freeze heard freezes record,
      State.onsetFrozen_of_noExit none (noExit.imp_right State.freezeExit_eq_none)]
  case starved =>
    rw [State.takeOnset_of_starved heard starved,
      State.onsetStarved_of_noExit (noExit.imp_right State.starvationExit_eq_none), State.unmatched_eq]

/-- Settles O36: the marks and counter 9, and the corrected record. -/
theorem leadOnsetCorrectsClock : Obligations.LeadOnsetCorrectsClock := by
  intro s o l t ta r n locked hl ht runs strong lead chosen ungated unmarked hta hn
  have heard := State.heard_of hl ht strong
  rw [State.exec_onset_of_locked locked, State.takeOnset_of_running heard runs, lead,
    State.onsetRunning_of_chosen chosen, State.matchRunning, if_pos rfl, if_neg ungated, unmarked,
    Follower.correct_eq _ _ _ runs _ hta hn]
  rfl

/-- Settles O38: the row opened, and the clock through the onset. -/
theorem leadOnsetOpensGate : Obligations.LeadOnsetOpensGate := by
  intro s o l t r n locked hl ht runs strong lead chosen gated hn
  have heard := State.heard_of hl ht strong
  rw [State.exec_onset_of_locked locked, State.takeOnset_of_running heard runs, lead,
    State.onsetRunning_of_chosen chosen, State.matchRunning, if_pos rfl, if_pos gated, State.openRow_leadMatch,
    if_pos gated, Follower.openByOnset_eq _ _ _ runs hn]
  rfl

/-- Settles O39: the mark and counter 10, in the running modes and in FREEZE. -/
theorem onsetOnlyMarks : Obligations.OnsetOnlyMarks := by
  refine ⟨fun c => ⟨rfl, rfl, rfl, rfl⟩, fun s o l t r locked hl ht strong only => ?_⟩
  have heard := State.heard_of hl ht strong
  rw [State.exec_onset_of_locked locked]
  rcases only with ⟨runs, chosen, other | ⟨ungated, marked⟩⟩ | ⟨z, freezes, record, chosen⟩
  · rw [State.takeOnset_of_running heard runs, State.onsetRunning_of_chosen chosen, State.matchRunning, other,
      if_neg Bool.false_ne_true, State.markOnly_eq]
  · rw [State.takeOnset_of_running heard runs, State.onsetRunning_of_chosen chosen, State.matchRunning, if_neg ungated,
      if_pos marked, ite_self, State.markOnly_eq]
  · rw [State.takeOnset_of_freeze heard freezes record, State.onsetFrozen_of_chosen chosen, State.markOnly_eq]

/-- Settles O40: the exit candidate of each wait, and the record of R96 and R101. -/
theorem leadOnsetEndsWait : Obligations.LeadOnsetEndsWait := by
  intro s ended o l t r mode locked hl ht strong lead hended
  have heard := State.heard_of hl ht strong
  have exits : s.exitOn l t r mode = ended := hended ▸ s.exitOn_eq l t r mode
  rw [State.exec_onset_of_locked locked]
  refine ⟨fun z freezes record none before => ?frozen, fun starved hmode first => ?starved⟩
  case frozen =>
    have back : z.before.mode = mode := by
      rcases before with ⟨h, rfl⟩ | ⟨h, rfl⟩ <;> rw [h] <;> rfl
    have leaves : s.freezeExit l z.position = some r → s.takeOnset o = ended := fun exit => by
      rw [State.takeOnset_of_freeze heard freezes record, lead, State.onsetFrozen_of_exit none exit, back, exits]
    refine ⟨fun first unmarked => congrArg _ (leaves (State.freezeExit_first ?_ unmarked)), fun first => ?_⟩
    · rw [List.find?_filter, ← first]
      simp
    · rcases State.freezeExit_cases s l z.position with noExit | exit
      · right
        rw [State.takeOnset_of_freeze heard freezes record, State.onsetFrozen_of_noExit none (Or.inr noExit)]
      · exact Or.inl (congrArg _ (leaves (exit.trans ((s.firstAwaiting_filter l z.position).trans first))))
  case starved =>
    subst hmode
    have exit : s.starvationExit l = some r := first
    rw [State.takeOnset_of_starved heard starved, lead, State.onsetStarved_of_exit exit, exits]

end Sys2Proof.Machine

/-! Releases (06, R105 to R116): O41, O43 and O44. -/

namespace Sys2Proof.Machine

-- One proof at a time, for the memory limit of the check.
set_option Elab.async false

/-! ### Release marks (R58, R114, R115) -/

theorem Follower.noteReleased_eq (f : Follower) (q : Nat) :
    f.noteReleased q = { f with lastReleased := some (max (f.lastReleased.getD 0) q) } := by
  unfold noteReleased
  cases f.lastReleased with
  | none => simp
  | some l => rfl

/-- Settles O41: the fourth mark takes the row off the list, and each mark raises the last released position. -/
theorem releaseMarkSet : Obligations.ReleaseMarkSet := by
  intro s d r marks q hmarks hq
  subst hmarks hq
  have state := CueRow.release_rowState (c := s.cues[r]) (d := d)
  have marked : s.markReleased d r = { s with
      cues := s.cues.set r (s.cues[r].release d)
      rol := if (s.cues[r].release d).rowState = .listen then s.rol.erase r else s.rol
      follower := { s.follower with lastReleased := some (max (s.follower.lastReleased.getD 0) s.cues[r].position) } } := by
    rw [← Follower.noteReleased_eq]
    rfl
  have row : ∀ x : RowState, (s.cues[r].release d).rowState = x → s.cues[r].release d =
      { s.cues[r] with released := s.cues[r].released.set d true, rowState := x } := by
    rintro x rfl
    rfl
  refine ⟨fun partly => ?partly, fun full => ?full⟩
  case partly =>
    obtain ⟨e, unmarked⟩ := partly
    have releasing := state.trans (if_neg fun all => Bool.false_ne_true (unmarked.symm.trans (all e)))
    rw [marked, if_neg (by rw [releasing]; nofun), row _ releasing]
  case full =>
    have listen := state.trans (if_pos full)
    rw [marked, if_pos listen, row _ listen]

/-! ### RELEASE and HELD_RELEASE_OFFER (R107 to R112, R116) -/

namespace State

variable {s : State} {d : Division} {r : RowNumber}

theorem late_iff : s.late d r = true ↔ s.follower.defines s.cues[r].position = true
    ∧ s.follower.offset s.cues[r].position - ((s.tables.division[d].w0.toNat % 2048 : Nat) : Int)
      + (s.follower.window : Int) < s.follower.age := by
  have order : ∀ a w l : Int, a + (w - l) = a - l + w := by omega
  rw [late, Bool.and_eq_true, Follower.passed_iff, lead_eq, order]

/-- What an entering release does (R110, R112, R116). -/
theorem enterRelease_eq (s : State) (d : Division) (r : RowNumber) : s.enterRelease d r = { s.markReleased d r with
    divisions := s.divisions.set d (s.computeCue d r).record
    ports := s.ports.set d { s.ports[d] with queue := s.ports[d].queue ++ (s.computeCue d r).run }
    counters := if s.late d r = true then
        ((s.raiseBy Counter.keysOrCodes (s.computeCue d r).dropped).raise Counter.lateReleases).counters
      else (s.raiseBy Counter.keysOrCodes (s.computeCue d r).dropped).counters } := by
  rw [enterRelease, noteLate]
  split <;> rfl

/-- The same where it ends a wait. -/
theorem withdraw_enterRelease_eq (waits : s.ports[d].state = .waiting) : (s.enterRelease d r).withdraw d =
    { s.markReleased d r with
      held := s.held.set d none
      divisions := s.divisions.set d (s.computeCue d r).record
      ports := s.ports.set d { s.ports[d] with
        state := .active, waitingSince := none, offerDue := false
        queue := s.ports[d].queue ++ (s.computeCue d r).run }
      counters := if s.late d r = true then
          ((s.raiseBy Counter.keysOrCodes (s.computeCue d r).dropped).raise Counter.lateReleases).counters
        else (s.raiseBy Counter.keysOrCodes (s.computeCue d r).dropped).counters } := by
  have written : (s.enterRelease d r).ports[d] = s.ports[d].enqueue (s.computeCue d r).run := by
    rw [enterRelease_eq]
    exact (s.setPort_get d d _).trans (if_pos rfl)
  have waiting : (s.ports[d].enqueue (s.computeCue d r).run).state = .waiting := waits
  rw [withdraw, written, Port.endWait_of_waiting waiting, enterRelease_eq]
  simp only [setPort, setHeld, Vector.set_set]
  rfl

theorem fits_iff {p : Port} {run : List ValveWord} : p.fits run = true ↔
    p.owedAllOff = false ∧ run.length ≤ 12 - p.queue.length := by
  rw [Port.fits, Bool.and_eq_true, decide_eq_true_eq, Bool.not_eq_true']
  rfl

theorem fits_eq_false {p : Port} {run : List ValveWord} (full : p.owedAllOff = true ∨ 12 - p.queue.length < run.length) :
    p.fits run = false := by
  refine Bool.eq_false_iff.mpr fun fits => ?_
  obtain ⟨none, room⟩ := fits_iff.mp fits
  exact full.elim (fun owed => Bool.false_ne_true (none.symm.trans owed)) fun long => absurd room (not_le.mpr long)

theorem offerRow_eq_none (none : s.held[d] = none ∨ s.ports[d].state ≠ .waiting ∨ s.ports[d].offerDue = false) :
    s.offerRow d = .none := by
  refine Option.eq_none_iff_forall_ne_some.mpr fun r offer => ?_
  obtain ⟨due, waits, held⟩ := offerRow_eq_some_iff.mp offer
  rcases none with h | h | h
  · cases h.symm.trans held
  · exact h waits
  · exact Bool.false_ne_true (h.symm.trans due)

end State

/-- Settles O43: the due row enters where it fits and is held where it does not. -/
theorem releaseEntersOrIsHeld : Obligations.ReleaseEntersOrIsHeld := by
  refine ⟨fun s d none => ?stays, fun s d r running held due active => ⟨fun owes room => ?enters, fun full => ?held⟩⟩
  case stays =>
    have noRow : s.releaseRow d = .none := none.elim State.releaseRow_of_held fun undue => by
      rw [State.releaseRow, undue, ite_self]
    exact next_live_of_stays (State.takeRelease_of_none noRow)
  case enters =>
    have defined : s.follower.defines s.cues[r].position = true := by
      obtain ⟨-, defined, -⟩ := State.dueRow_eq_some_iff.mp due
      exact defined
    have late := State.late_iff (s := s) (d := d) (r := r)
    rw [and_iff_right defined] at late
    rw [exec_release_of_due running held due, State.releaseTo_fits active (State.fits_iff.mpr ⟨owes, room⟩),
      State.enterRelease_eq]
    simp only [late]
  case held =>
    rw [exec_release_of_due running held due, State.releaseTo_held active (State.fits_eq_false full)]
    rfl

/-- Settles O44: the held release enters where it fits, and else stays held until the next change. -/
theorem heldReleaseOffered : Obligations.HeldReleaseOffered := by
  refine ⟨fun s d none => ?stays, fun s d r running held waits offered => ⟨fun owes room => ?enters, fun full => ?held⟩⟩
  case stays =>
    have stays : s.takeOffer d = s := by simp only [State.takeOffer, State.offerRow_eq_none none]
    exact next_live_of_stays stays
  all_goals
    have offer : s.offerRow d = some r := State.offerRow_eq_some_iff.mpr ⟨offered, waits, held⟩
    rw [exec, execHeldReleaseOffer, State.live_of_running running]
    simp only [State.takeOffer, offer]
  case enters =>
    rw [if_pos (State.fits_iff.mpr ⟨owes, room⟩), State.withdraw_enterRelease_eq waits]
    simp only [State.late_iff]
  case held =>
    rw [if_neg (by rw [State.fits_eq_false full]; exact Bool.false_ne_true)]
    rfl

end Sys2Proof.Machine

/-! The Registration Mapper's Key Map and key events (07, R123 to R135): O46. -/

namespace Sys2Proof.Machine

-- One proof at a time, for the memory limit of the check.
set_option Elab.async false

/-! ### What a release applies (R123, R124, R128) -/

theorem effectiveSet_eq {f : Follower} {c : CueRow} {set : BitVec 4}
    (hset : set.toNat = (c.regSet.toNat + f.startingSet.toNat) % 16) : effectiveSet f c = set :=
  BitVec.eq_of_toNat_eq ((BitVec.toNat_add ..).trans hset.symm)

theorem registrationIndex_eq {set : BitVec 4} {d : Division} {i : Fin 64} (hi : i.val = set.toNat * 4 + d.val) :
    registrationIndex set d = i :=
  Fin.ext hi.symm

theorem State.computeCue_eq {s : State} {d : Division} {r : RowNumber} {set : BitVec 4} {i : Fin 64}
    (hset : set.toNat = (s.cues[r].regSet.toNat + s.follower.startingSet.toNat) % 16) (hi : i.val = set.toNat * 4 + d.val) :
    s.computeCue d r = applySteps s.tables.registration[i] (s.tables.division[d].w1.toNat / 64)
      (72 - s.tables.division[d].w1.toNat % 64) s.follower.transposition set s.cues[r].voices s.divisions[d] := by
  have row := registrationIndex_eq hi
  have named := effectiveSet_eq hset
  subst row named
  rw [computeCue, DivisionRow.compassLow_eq_div, DivisionRow.compassHigh_eq_sub_mod]

/-! ### Holders (R127 to R129) -/

section Holders

variable {row : RegistrationRow} {tr : Int} {reg : Voices (Option Value6)} {h : Holder} {x : Int}

theorem mem_voiceHolders {v : Voice} {entry : Option Value6} : (h, x) ∈ voiceHolders row tr v entry ↔
    h.voice = v ∧ ∃ c, entry = some c ∧ row.plays v = true ∧ row.gives h.octave = true ∧ x = holderKey tr c h.octave := by
  obtain ⟨w, o⟩ := h
  cases entry with
  | none => simp [voiceHolders]
  | some c =>
    have listed : o ∈ allOctaves := by cases o <;> decide
    by_cases plays : row.plays v = true
    · simp only [voiceHolders, if_pos plays, List.mem_map, List.mem_filter, Prod.mk.injEq, Holder.mk.injEq]
      constructor
      · rintro ⟨e, ⟨-, gives⟩, ⟨rfl, rfl⟩, rfl⟩
        exact ⟨rfl, c, rfl, plays, gives, rfl⟩
      · rintro ⟨rfl, -, ⟨⟩, -, gives, rfl⟩
        exact ⟨o, ⟨listed, gives⟩, ⟨rfl, rfl⟩, rfl⟩
    · simp [voiceHolders, plays]

theorem mem_derivedHolders : (h, x) ∈ derivedHolders row tr reg ↔ ∃ c, reg.get h.voice = some c
    ∧ row.plays h.voice = true ∧ row.gives h.octave = true ∧ x = holderKey tr c h.octave := by
  have listed : h.voice ∈ allVoices := by cases h.voice <;> decide
  simp only [derivedHolders, List.mem_flatMap, mem_voiceHolders]
  constructor
  · rintro ⟨_, -, rfl, falls⟩
    exact falls
  · exact fun falls => ⟨h.voice, listed, rfl, falls⟩

theorem inCompass_iff {low high : Nat} {k : Int} : inCompass low high k = true ↔ (low : Int) ≤ k ∧ k ≤ (high : Int) :=
  decide_eq_true_iff

theorem holderKey_eq (c : Value6) (o : Octave) : holderKey tr c o
    = (c.toNat : Int) - 2 + tr + (match o with | .unison => 0 | .sub => -12 | .super => 12) := by
  cases o <;> rfl

theorem newRegister_get (row : RegistrationRow) (codes : Voices Value6) (old : Voices (Option Value6)) (v : Voice) :
    (newRegister row codes old).get v = newEntry row v (codes.get v) (old.get v) := by
  cases v <;> rfl

theorem mem_newKeyMap {low high : Nat} {hs : List (Holder × Int)} {k : Fin 73} :
    h ∈ (newKeyMap low high hs)[k] ↔ (h, (k.val : Int)) ∈ hs ∧ low ≤ k.val ∧ k.val ≤ high := by
  have kept : (newKeyMap low high hs)[k] = keptHolders low high hs k := ofFn_get _ k
  rw [kept, mem_keptHolders, inCompass_iff, Int.ofNat_le, Int.ofNat_le]

/-- The dropped keys, counted once each (R128). -/
theorem droppedKeys_eq {low high : Nat} {hs : List (Holder × Int)} {K : List Int} (distinct : K.Nodup)
    (members : ∀ x, x ∈ K ↔ (∃ h, (h, x) ∈ hs) ∧ (x < (low : Int) ∨ (high : Int) < x)) :
    droppedKeys low high hs = K.length := by
  refine ((List.perm_ext_iff_of_nodup (List.nodup_dedup _) distinct).mpr fun x => ?_).length_eq
  have outside : ¬((low : Int) ≤ x ∧ x ≤ (high : Int)) ↔ x < (low : Int) ∨ (high : Int) < x := by omega
  rw [List.mem_dedup, List.mem_filter, members, Bool.not_eq_true', ← Bool.not_eq_true, inCompass_iff, outside]
  simp only [List.mem_map, Prod.exists, exists_eq_right]

end Holders

/-! ### Key events (R133, R134) -/

section Events

variable {held : Voice → Bool} {before after : List Holder}

theorem anyCarried_eq_false : anyCarried held before after = false ↔
    ∀ h ∈ after, held h.voice = true → h ∉ before := by
  simp [anyCarried]

theorem keyOff_iff : keyOff held before after = true ↔
    before ≠ [] ∧ ∀ h ∈ after, held h.voice = true → h ∉ before := by
  rw [keyOff, ← anyCarried_eq_false]
  cases after with
  | nil => simp [anyCarried]
  | cons h rest => simp

theorem keyOn_iff : keyOn held before after = true ↔
    after ≠ [] ∧ ∀ h ∈ after, held h.voice = true → h ∉ before := by
  rw [keyOn, ← anyCarried_eq_false]
  cases before with
  | nil => simp [anyCarried]
  | cons h rest => simp

variable {old new : Vector (List Holder) 73} {k : Fin 73}

theorem off_mem_keyEvents : ⟨false, k⟩ ∈ keyEvents held old new ↔
    old[k] ≠ [] ∧ ∀ h ∈ new[k], held h.voice = true → h ∉ old[k] := by
  rw [← keyOff_iff, keyEvents_eq]
  simp [-Fin.getElem_fin, offKeys]

theorem on_mem_keyEvents : ⟨true, k⟩ ∈ keyEvents held old new ↔
    new[k] ≠ [] ∧ ∀ h ∈ new[k], held h.voice = true → h ∉ old[k] := by
  rw [← keyOn_iff, keyEvents_eq]
  simp [-Fin.getElem_fin, onKeys]

end Events

/-- Settles O46: what a release applies, and the record, the dropped keys and the key events it gives. -/
theorem keyMapAndKeyEvents : Obligations.KeyMapAndKeyEvents := by
  refine ⟨fun s d r set i hset hi => State.computeCue_eq hset hi,
    fun row => ⟨rfl, rfl, rfl, rfl, rfl, rfl, rfl⟩, fun row low high tr set codes old a falls ha hfalls => ?_⟩
  subst ha
  have derived : ∀ h x, (h, x) ∈ derivedHolders row tr (newRegister row codes old.register) ↔ falls h.voice h.octave x := by
    intro h x
    rw [mem_derivedHolders, hfalls]
    simp only [holderKey_eq]
    rfl
  refine ⟨rfl, newRegister_get row codes old.register, fun k h => ?keyMap, fun K distinct members => ?dropped,
    applicationEvents row low high tr set codes old, rfl, fun k => ⟨off_mem_keyEvents, on_mem_keyEvents⟩⟩
  case keyMap => rw [applySteps_keyMap, mem_newKeyMap, derived]
  case dropped =>
    refine droppedKeys_eq distinct fun x => (members x).trans (and_congr_left fun _ => ?_)
    exact ⟨fun ⟨v, o, h⟩ => ⟨⟨v, o⟩, (derived _ x).mpr h⟩, fun ⟨h, mem⟩ => ⟨h.voice, h.octave, (derived h x).mp mem⟩⟩

end Sys2Proof.Machine

/-! The chest ports' events (08, R145 to R157): O47, O49 to O52. -/

namespace Sys2Proof.Machine

-- One proof at a time, for the memory limit of the check.
set_option Elab.async false

/-! ### ALL_OFF_ENTRY (R112, R149) -/

/-- Settles O47: the ALL-OFF word at the tail, and the offer that it makes due. -/
theorem allOffEnters : Obligations.AllOffEnters := by
  refine ⟨fun s d none => ?stays, fun s d running owed room => ⟨fun active => ?active, fun waits => ?waiting⟩⟩
  case stays =>
    have stays : s.enterAllOff d = s := by
      refine if_neg fun ready => ?_
      obtain ⟨owed, on, room⟩ := Port.allOffReady_iff.mp ready
      rcases none with h | h | h | h
      · exact Bool.false_ne_true (h.symm.trans owed)
      · exact absurd room (not_lt.mpr h)
      · rcases on with on | on <;> exact absurd (h.symm.trans on) nofun
      · rcases on with on | on <;> exact absurd (h.symm.trans on) nofun
    exact next_live_of_stays stays
  case active =>
    rw [exec, execAllOffEntry, State.live_of_running running, State.enterAllOff,
      if_pos (Port.allOffReady_iff.mpr ⟨owed, Or.inl active, room⟩), Port.enterAllOff, Port.noteChange,
      if_neg (by rw [active]; nofun)]
    rfl
  case waiting =>
    rw [exec, execAllOffEntry, State.live_of_running running, State.enterAllOff,
      if_pos (Port.allOffReady_iff.mpr ⟨owed, Or.inr waits, room⟩), Port.enterAllOff, Port.noteChange, if_pos waits]
    rfl

/-! ### The frames of a CHEST_RX line (R145) -/

theorem Symbol.classify_control_zero {x : Symbol} : x.classify = .control 0 ↔ x = 0x0F :=
  Symbol.classify_eq_control.trans (Option.some_inj.trans eq_comm)

theorem Symbol.classify_control_one {x : Symbol} : x.classify = .control 1 ↔ x = 0x33 :=
  Symbol.classify_eq_control.trans (Option.some_inj.trans eq_comm)

theorem Symbol.classify_control_five {x : Symbol} : x.classify = .control 5 ↔ x = 0xF0 :=
  Symbol.classify_eq_control.trans (Option.some_inj.trans eq_comm)

theorem chestFrame_eq_some_iff {d : Division} {al : Sys2Proof.Alignment} {a b : Symbol} {c : Instr} :
    chestFrame d al a b = some c ↔ a = 0x0F ∧ b = 0xF0 ∧ c = .chestSync d al
      ∨ a = 0x33 ∧ ∃ v : Value6, b.classify = .value v ∧ 1 ≤ v.toNat ∧ v.toNat ≤ 6 ∧ c = .credit d v := by
  rw [← Symbol.classify_control_zero, ← Symbol.classify_control_one, ← Symbol.classify_control_five]
  unfold chestFrame
  split
  · next ha hb => simp [ha, hb, eq_comm]
  · next v ha hb => simp [ha, hb, and_assoc, eq_comm]
  · next noSync noCredit =>
    refine ⟨nofun, ?_⟩
    rintro (⟨ha, hb, -⟩ | ⟨ha, v, hb, -⟩)
    · exact (noSync ha hb).elim
    · exact (noCredit v ha hb).elim

/-! ### CREDIT (R145 to R147, R152) -/

namespace State

variable {s : State} {d : Division} {n : Value6}

theorem takeCredit_of_none (none : s.ports[d].rx.aligned = none ∨ n = 0 ∨ 6 < n.toNat) : s.takeCredit d n = s := by
  refine if_pos (none.imp Option.isNone_iff_eq_none.mpr (Or.imp_left fun zero => ?_))
  rw [zero]
  rfl

section Arrives

variable (locked : s.ports[d].rx.aligned.isSome = true) (low : 1 ≤ n.toNat) (high : n.toNat ≤ 6)
include locked low high

/-- With lock a value 1..6 is a CREDIT (R145). -/
theorem credit_arrives : ¬(s.ports[d].rx.aligned.isNone = true ∨ n.toNat = 0 ∨ 6 < n.toNat) := by
  rintro (search | zero | above)
  · exact Bool.false_ne_true ((Option.isNone_eq_false_iff.mpr locked).symm.trans search)
  · omega
  · omega

theorem takeCredit_of_off (off : s.ports[d].state = .off) : s.takeCredit d n = s := by
  simp only [takeCredit, if_neg (credit_arrives locked low high), off]

theorem takeCredit_of_on (on : s.ports[d].state = .active ∨ s.ports[d].state = .waiting) :
    s.takeCredit d n = s.addCredit d n.toNat := by
  rcases on with on | on <;> simp only [takeCredit, if_neg (credit_arrives locked low high), on]

theorem takeCredit_of_stalled (stalled : s.ports[d].state = .stalled) : s.takeCredit d n = s.recover d n.toNat := by
  simp only [takeCredit, if_neg (credit_arrives locked low high), stalled]

end Arrives

theorem addCredit_of_room {m : Nat} (room : s.ports[d].credits + m ≤ 6) :
    s.addCredit d m = s.setPort d { s.ports[d] with credits := s.ports[d].credits + m } :=
  if_pos room

theorem addCredit_of_overflow {m : Nat} (above : 6 < s.ports[d].credits + m) : s.addCredit d m =
    ((s.setPort d { s.ports[d] with credits := 6 }).raise Counter.creditOverflows).setFlag .creditOverflow :=
  if_neg (not_le.mpr above)

theorem recover_eq (s : State) (d : Division) (m : Nat) : s.recover d m = { s with
    divisions := s.divisions.set d DivisionRecord.silent
    ports := s.ports.set d { s.ports[d] with state := .active, credits := m, queue := [], owedAllOff := true } } := by
  have same : s.held.set d s.held[d] = s.held := Vector.set_getElem_self _
  have on : ({ s.ports[d] with state := .active, credits := m, queue := [] } : Port).state ≠ .off := nofun
  rw [recover, silence_setPort, Port.oweAllOff_of_on on, setChest, same]

end State

/-- Settles O49: the frames, and CREDIT n by port state. -/
theorem creditTaken : Obligations.CreditTaken := by
  refine ⟨fun d al a b c => chestFrame_eq_some_iff, fun s d n none => ?none, fun s d n running locked low high => ?taken⟩
  case none => exact next_live_of_stays (State.takeCredit_of_none none)
  case taken =>
    rw [exec, execCredit, State.live_of_running running]
    refine ⟨fun off => congrArg _ (State.takeCredit_of_off locked low high off),
      fun on => ⟨fun room => ?room, fun above => ?above⟩, fun stalled => ?stalled⟩
    case room => rw [State.takeCredit_of_on locked low high on, State.addCredit_of_room room, State.setPort]
    case above =>
      rw [State.takeCredit_of_on locked low high on, State.addCredit_of_overflow above]
      rfl
    case stalled =>
      rw [State.takeCredit_of_stalled locked low high stalled, State.recover_eq]
      rfl

/-! ### STALL (R109, R112, R113, R151, R157) -/

namespace State

variable {s : State} {d : Division} {r : RowNumber}

theorem stallsNow_iff : s.stallsNow d = true ↔ s.ports[d].state = .waiting ∧ ∃ t, s.ports[d].waitingSince = some t
    ∧ 0 < Time.diff s.deviceTime (t + BitVec.ofNat 24 s.tables.division[d].w2.toNat) := by
  rw [stallsNow, Bool.and_eq_true, decide_eq_true_eq]
  cases s.ports[d].waitingSince with
  | none => simp
  | some t => simp [deadlinePassed_iff, DivisionRow.stallLimit]

/-- What a stall does while a release is held (R109, R113, R151). -/
theorem stallPort_eq (held : s.held[d] = some r) : s.stallPort d = { s.markReleased d r with
    held := s.held.set d none
    divisions := s.divisions.set d (s.computeCue d r).record
    ports := s.ports.set d { s.ports[d] with
      state := .stalled, waitingSince := none, queue := [], credits := 0, offerDue := false }
    counters := ((s.raiseBy Counter.keysOrCodes (s.computeCue d r).dropped).raise Counter.divisionStalls).counters
    flags := s.flags ||| 4 } := by
  rw [stallPort_of_held held, releaseUnheard_eq]
  rfl

/-- A refused offer leaves the stall as it was. -/
theorem stallPort_offered (held : s.held[d] = some r) :
    (s.setPort d s.ports[d].offered).stallPort d = s.stallPort d := by
  have same : (s.setPort d s.ports[d].offered).held[d] = some r := held
  have port : (s.setPort d s.ports[d].offered).ports[d] = s.ports[d].offered := by rw [setPort_get, if_pos rfl]
  rw [stallPort_eq held, stallPort_eq same, port, computeCue_setPort]
  simp only [setPort, Vector.set_set]
  rfl

theorem stallsNow_offered : (s.setPort d s.ports[d].offered).stallsNow d = s.stallsNow d := by
  have port : (s.setPort d s.ports[d].offered).ports[d] = s.ports[d].offered := by rw [setPort_get, if_pos rfl]
  rw [stallsNow, port]
  rfl

theorem takeOffer_of_fits (offer : s.offerRow d = some r) (fits : s.ports[d].fits (s.computeCue d r).run = true) :
    s.takeOffer d = (s.enterRelease d r).withdraw d := by
  simp only [takeOffer, offer, fits, if_true]

theorem takeOffer_of_full (offer : s.offerRow d = some r) (full : s.ports[d].fits (s.computeCue d r).run = false) :
    s.takeOffer d = s.setPort d s.ports[d].offered := by
  simp only [takeOffer, offer, full, Bool.false_eq_true, if_false]

/-- A port whose held run has entered does not stall (R157). -/
theorem takeStall_of_fits (stalls : s.stallsNow d = true) (offer : s.offerRow d = some r)
    (fits : s.ports[d].fits (s.computeCue d r).run = true) : s.takeStall d = s.takeOffer d := by
  have active : (s.takeOffer d).ports[d].state = .active := by
    rw [takeOffer_of_fits offer fits, withdraw_enterRelease_eq (stallsNow_waiting stalls)]
    exact congrArg Port.state ((s.setPort_get d d _).trans (if_pos rfl))
  have stops : (s.takeOffer d).stallsNow d = false :=
    Bool.eq_false_iff.mpr fun again => absurd (active.symm.trans (stallsNow_waiting again)) nofun
  simp only [takeStall, stalls, stops, if_true, Bool.false_eq_true, if_false]

theorem takeStall_of_full (stalls : s.stallsNow d = true) (held : s.held[d] = some r)
    (full : s.ports[d].offerDue = false ∨ s.ports[d].fits (s.computeCue d r).run = false) :
    s.takeStall d = s.stallPort d := by
  by_cases due : s.ports[d].offerDue = true
  · have offer : s.offerRow d = some r := offerRow_eq_some_iff.mpr ⟨due, stallsNow_waiting stalls, held⟩
    have notEntered := takeOffer_of_full offer (full.resolve_left (by rw [due]; nofun))
    have again : (s.takeOffer d).stallsNow d = true := by rw [notEntered, stallsNow_offered, stalls]
    simp only [takeStall, stalls, again, if_true]
    rw [notEntered, stallPort_offered held]
  · exact takeStall_of_noOffer stalls (offerRow_eq_none (Or.inr (Or.inr (Bool.eq_false_iff.mpr due))))

end State

/-- Settles O50: the offer that comes first, and the stall. -/
theorem portStalls : Obligations.PortStalls := by
  refine ⟨fun s d within => ?within, fun s d r t running waits held since passed => ?_⟩
  case within =>
    have stays : s.takeStall d = s := by
      refine State.takeStall_of_not (Bool.eq_false_iff.mpr fun stalls => ?_)
      obtain ⟨waits, t, since, passed⟩ := State.stallsNow_iff.mp stalls
      exact absurd (within t waits since) (not_le.mpr passed)
    exact next_live_of_stays stays
  have stalls : s.stallsNow d = true := State.stallsNow_iff.mpr ⟨waits, t, since, passed⟩
  rw [exec_stall_of_running running]
  refine ⟨fun due owes room => ?enters, fun full => ?stalls⟩
  case enters =>
    have offer : s.offerRow d = some r := State.offerRow_eq_some_iff.mpr ⟨due, waits, held⟩
    rw [State.takeStall_of_fits stalls offer (State.fits_iff.mpr ⟨owes, room⟩), exec, execHeldReleaseOffer,
      State.live_of_running running]
  case stalls =>
    rw [State.takeStall_of_full stalls held (full.imp_right State.fits_eq_false), State.stallPort_eq held]

/-! ### Receive lock (R145) -/

/-- Settles O51: each SYNC by the lock and its alignment, and the 48-frame-time limit. -/
theorem receiveLock : Obligations.ReceiveLock := by
  refine ⟨fun s d within => ?within, fun s d a b x c running hx hc => ?_⟩
  case within =>
    have stays : s.takeReceiveLockLoss d = s := if_neg (by rw [FrameLock.timedOut_eq_false within]; nofun)
    exact next_live_of_stays stays
  subst hx
  have sync : exec (.chestSync d a) s = .next (s.setPort d { s.ports[d] with
      rx := s.ports[d].rx.countSync 4 s.deviceTime a }) := by
    rw [exec, execChestSync, State.live_of_running running]
    rfl
  refine ⟨fun search below => ?search, fun search full => ?take, fun locked => ?keep,
    fun locked other below => ?competing, fun locked other full => ?lose, fun locked passed => ?late⟩
  case search => rw [sync, FrameLock.countSync_search hc search below, State.setPort]
  case take =>
    subst full
    rw [sync, FrameLock.countSync_take hc search le_rfl, State.setPort]
  case keep => rw [sync, FrameLock.countSync_keep hc locked, State.setPort]
  case competing => rw [sync, FrameLock.countSync_competing hc locked other (by omega), State.setPort]
  case lose => rw [sync, FrameLock.countSync_lose hc locked other (by omega), State.setPort, FrameLock.lost]
  case late =>
    have out := FrameLock.timedOut_iff.mpr ⟨Option.isSome_iff_exists.mpr ⟨b, locked⟩, passed⟩
    rw [exec, execReceiveLockLoss, State.live_of_running running, State.takeReceiveLockLoss, if_pos out, State.setPort,
      FrameLock.lost]

/-! ### FLUSH (R113, R137, R153) -/

/-- A division that FLUSH names, its port not OFF. -/
def Chest.flushed (c : Chest) : Chest where
  port := if c.port.state = .off then c.port else { c.port.flushed with owedAllOff := true }
  held := if c.port.state = .off then c.held else none
  record := if c.port.state = .off then c.record else .silent

theorem State.putChest_chest (s : State) (d : Division) : s.putChest d (s.chest d) = s := by
  simp [putChest, chest, setChest]

theorem State.flushPort_eq_putChest (d : Division) (s : State) : s.flushPort d = s.putChest d (s.chest d).flushed := by
  by_cases off : s.ports[d].state = .off
  · have same : (s.chest d).flushed = s.chest d := by simp only [Chest.flushed, chest, off, if_true]
    rw [flushPort, if_pos off, same, putChest_chest]
  · have on : s.ports[d].flushed.state ≠ .off := nofun
    rw [flushPort, if_neg off, silence_setHeld_setPort, Port.oweAllOff_of_on on]
    simp only [putChest, Chest.flushed, chest, off, if_false]

/-- Settles O52: the four divisions at once. -/
theorem flushNamedDivisions : Obligations.FlushNamedDivisions := by
  intro s mask rest running handed low
  have accepted : field mask 4 8 = 0 := by
    rw [field_toNat]
    omega
  have chest : ∀ d t, (if bit mask d.val then State.flushPort d t else t) = t.putChest d
      (if bit mask d.val then (t.chest d).flushed else t.chest d) := by
    intro d t
    split
    · exact State.flushPort_eq_putChest d t
    · exact (t.putChest_chest d).symm
  have named : ∀ {α : Type} (d : Division) (x y : α), (if mask.getLsbD d.val = true ∧ s.ports[d].state ≠ .off then x else y)
      = if bit mask d.val then if s.ports[d].state = .off then y else x else y := by
    intro α d x y
    rw [ite_and, bit]
    simp only [ne_eq, ite_not]
  rw [exec_flush_of_handed running handed, State.flush, if_pos accepted, forDivisions_chest
    (f := fun d c => if bit mask d.val then c.flushed else c) chest]
  simp only [named]
  congr 2 <;> exact ext_divisions _ _ fun d => by
    rw [ofFn_get, ofFn_get]
    split <;> rfl

end Sys2Proof.Machine

/-! The frames of a slot on the chest lines (08, R143, R144), and the end of a frame time: O48. -/

namespace Sys2Proof.Machine

-- One proof at a time, for the memory limit of the check.
set_option Elab.async false

/-! ### The frame of a port's slot (R144) -/

namespace Port

variable {p : Port} {slot : Nat} {h : Data12} {w : ValveWord} {rest : List ValveWord}

theorem fillSlot_of_chosen (chosen : p.line.now.isSome = true) : p.fillSlot slot = p :=
  if_neg (by rw [Option.isNone_eq_false_iff.mpr chosen]; exact Bool.false_ne_true)

theorem fillSlot_of_open (unchosen : p.line.now = none) : p.fillSlot slot = p.chooseFrame slot :=
  if_pos (Option.isNone_iff_eq_none.mpr unchosen)

theorem chooseFrame_sync (first : slot = 0) : p.chooseFrame slot = { p with line := p.line.send .sync } :=
  if_pos first

theorem chooseFrame_half (later : slot ≠ 0) (half : p.transmission = some h) :
    p.chooseFrame slot = { p with transmission := none, line := p.line.send (.data h) } := by
  simp only [chooseFrame, if_neg later, half]

theorem chooseFrame_word (later : slot ≠ 0) (between : p.transmission = none) (ready : p.wordReady = true)
    (begins : slot ≠ 31) : p.chooseFrame slot = p.beginWord := by
  simp [chooseFrame, later, between, ready, begins]

theorem chooseFrame_fill (later : slot ≠ 0) (between : p.transmission = none)
    (idle : slot = 31 ∨ p.wordReady = false) : p.chooseFrame slot = { p with line := p.line.send .fill } := by
  have no : (p.wordReady && decide (slot ≠ 31)) = false := by
    rcases idle with rfl | idle
    · exact Bool.and_false _
    · rw [idle, Bool.false_and]
  simp only [chooseFrame, if_neg later, between, no, Bool.false_eq_true, if_false]

theorem wordReady_iff : p.wordReady = true ↔ (p.state = .active ∨ p.state = .waiting) ∧ p.queue ≠ [] ∧ 1 ≤ p.credits := by
  simp [wordReady, and_assoc]

theorem beginWord_eq (queued : p.queue = w :: rest) : p.beginWord = { p with
    queue := rest
    credits := p.credits - 1
    transmission := some w.secondHalf
    line := ⟨some (.data w.firstHalf), p.line.last⟩
    offerDue := decide (p.state = .waiting) || p.offerDue } := by
  by_cases waiting : p.state = .waiting <;> simp [beginWord, queued, noteChange, waiting, Line.send]

/-- The choice of a frame does not change the port's state. -/
theorem fillSlot_state (p : Port) (slot : Nat) : (p.fillSlot slot).state = p.state := by
  have begun : p.beginWord.state = p.state := by
    unfold beginWord noteChange
    split
    · rfl
    · split <;> rfl
  unfold fillSlot chooseFrame
  split
  · split
    · rfl
    · split
      · rfl
      · split
        · exact begun
        · rfl
  · rfl

end Port

/-! ### The end of a frame time with nothing outstanding (R1, R44, log 3) -/

namespace State

variable {s : State} {d : Division}

theorem outstanding_of_nextOwn_none (none : s.nextOwn = none) {c : Instr} (own : c ∈ ownEvents) :
    s.outstanding c = false :=
  Bool.eq_false_iff.mpr (List.find?_eq_none.mp none c own)

theorem wordLeaving_mem_ownEvents (d : Division) : Instr.wordLeaving d ∈ ownEvents := by
  have division : d ∈ allDivisions := by revert d; decide
  have own : Instr.wordLeaving d ∈ allDivisions.map Instr.wordLeaving := List.mem_map_of_mem division
  exact List.mem_append_left _ (List.mem_append_right _ own)

/-! The choice on RET_OUT, rule by rule (R170). -/

theorem chooseReturn_sync (first : s.slot = 0) : s.chooseReturn = s.sendReturn .sync := if_pos first

theorem chooseReturn_half {w : Data12} (later : s.slot ≠ 0) (half : s.beaconHalf = some w) :
    s.chooseReturn = { s.sendReturn (.data w) with beaconHalf := none } := by
  simp only [chooseReturn, if_neg later, half]

theorem chooseReturn_response {r : Response} (later : s.slot ≠ 0) (between : s.beaconHalf = none)
    (due : s.response = some r) : s.chooseReturn = s.sendResponse r := by
  simp only [chooseReturn, if_neg later, between, due]

theorem chooseReturn_fill (last : s.slot = 31) (between : s.beaconHalf = none) (none : s.response = .none) :
    s.chooseReturn = s.sendReturn .fill := by
  have later : s.slot ≠ 0 := by omega
  simp only [chooseReturn, if_neg later, between, none, if_pos last]

theorem chooseReturn_beacon (later : s.slot ≠ 0) (begins : s.slot ≠ 31) (between : s.beaconHalf = none)
    (none : s.response = .none) :
    s.chooseReturn = { s.sendReturn (.beacon s.beaconValue) with beaconHalf := some s.beaconData } := by
  simp only [chooseReturn, if_neg later, between, none, if_neg begins]

/-- Other ports, in the same states. -/
theorem beaconValue_ports {ps : Vector Port 4} (same : ∀ d : Division, ps[d].state = s.ports[d].state) :
    ({ s with ports := ps } : State).beaconValue = s.beaconValue := by
  have zero : ps[0].state = s.ports[0].state := same 0
  have one : ps[1].state = s.ports[1].state := same 1
  have two : ps[2].state = s.ports[2].state := same 2
  have three : ps[3].state = s.ports[3].state := same 3
  have stalled : ({ s with ports := ps } : State).anyStalled = s.anyStalled := by
    simp only [anyStalled, zero, one, two, three]
  rw [beaconValue, stalled]
  rfl

/-- The return lane reads of the ports their states alone (R171). -/
theorem chooseReturn_ports {ps : Vector Port 4} (same : ∀ d : Division, ps[d].state = s.ports[d].state) :
    ({ s with ports := ps } : State).chooseReturn = { s.chooseReturn with ports := ps } := by
  by_cases first : s.slot = 0
  · rw [chooseReturn_sync first, chooseReturn_sync (s := { s with ports := ps }) first]
    rfl
  obtain half | ⟨w, half⟩ := s.beaconHalf.eq_none_or_eq_some
  · obtain due | ⟨r, due⟩ := s.response.eq_none_or_eq_some
    · by_cases last : s.slot = 31
      · rw [chooseReturn_fill last half due, chooseReturn_fill (s := { s with ports := ps }) last half due]
        rfl
      · rw [chooseReturn_beacon first last half due,
          chooseReturn_beacon (s := { s with ports := ps }) first last half due, beaconValue_ports same]
        rfl
    · rw [chooseReturn_response first half due, chooseReturn_response (s := { s with ports := ps }) first half due]
      cases frame : r.frames[r.sent]? <;> simp only [sendResponse, frame] <;> rfl
  · rw [chooseReturn_half first half, chooseReturn_half (s := { s with ports := ps }) first half]
    rfl

theorem fillReturnSlot_of_chosen (chosen : s.returnLine.now.isSome = true) : s.fillReturnSlot = s :=
  if_neg (by rw [Option.isNone_eq_false_iff.mpr chosen]; exact Bool.false_ne_true)

theorem fillReturnSlot_of_open (unchosen : s.returnLine.now = none) : s.fillReturnSlot = s.chooseReturn :=
  if_pos (Option.isNone_iff_eq_none.mpr unchosen)

theorem fillReturnSlot_ports {ps : Vector Port 4} (same : ∀ d : Division, ps[d].state = s.ports[d].state) :
    ({ s with ports := ps } : State).fillReturnSlot = { s.fillReturnSlot with ports := ps } := by
  cases choice : s.returnLine.now with
  | none =>
    rw [fillReturnSlot_of_open choice, fillReturnSlot_of_open (s := { s with ports := ps }) choice,
      chooseReturn_ports same]
  | some f =>
    have chosen : s.returnLine.now.isSome = true := Option.isSome_iff_exists.mpr ⟨f, choice⟩
    rw [fillReturnSlot_of_chosen chosen, fillReturnSlot_of_chosen (s := { s with ports := ps }) chosen]

theorem fillSlots_eq (s : State) : s.fillSlots = { s.fillReturnSlot with
    ports := Vector.ofFn fun d : Division => s.ports[d].fillSlot s.slot } := by
  have turns : forDivisions fillChestSlot s = forDivisions (fun d t => t.setPort d (t.ports[d].fillSlot s.slot)) s := rfl
  rw [fillSlots, turns, forDivisions_port (f := fun _ p => p.fillSlot s.slot) fun _ _ => rfl]
  exact fillReturnSlot_ports fun d => (congrArg Port.state (ofFn_get _ d)).trans (Port.fillSlot_state _ _)

/-- With no own event outstanding the slot ends with the frames chosen, or chosen now (log 3, log 4). -/
theorem exec_deviceTimeAdvance_of_quiet (running : s.Running) (quiet : s.nextOwn = none) :
    exec .deviceTimeAdvance s = .next { s.fillReturnSlot with
      deviceTime := s.deviceTime + 1
      follower := { s.follower with age := min (s.follower.age + 1) 67108863 }
      ports := Vector.ofFn fun d : Division => (s.ports[d].fillSlot s.slot).nextSlot
      returnLine := s.fillReturnSlot.returnLine.next } := by
  have ends : s.endFrameTime = (settle Config.settleRounds s).fillSlots.advance :=
    if_neg (by rw [running]; exact Bool.false_ne_true)
  obtain ⟨l, r, b, filled⟩ := s.fillReturnSlot_frame
  rw [exec, execDeviceTimeAdvance, ends, settle_of_none quiet, fillSlots_eq, advance, filled]
  simp only [ofFn_get]
  rfl

end State

/-- A slot that ends with a frame chosen. -/
theorem Port.nextSlot_of_chosen {p : Port} {f : OutFrame} (chosen : p.line.now = some f) :
    p.nextSlot = { p with line := ⟨none, f⟩ } := by
  rw [nextSlot, Line.next, chosen]
  rfl

theorem Port.fillSlot_nextSlot_of_chosen {p : Port} {f : OutFrame} (chosen : p.line.now = some f) (slot : Nat) :
    (p.fillSlot slot).nextSlot = { p with line := ⟨none, f⟩ } := by
  rw [fillSlot_of_chosen (Option.isSome_iff_exists.mpr ⟨f, chosen⟩), nextSlot_of_chosen chosen]

/-! ### WORD_LEAVING (R144, log 4) -/

theorem exec_wordLeaving_of_running {s : State} {d : Division} {p : Port} (running : s.Running) (hp : p = s.ports[d])
    (unchosen : p.line.now = none) :
    exec (.wordLeaving d) s = .next { s with ports := s.ports.set d (p.chooseFrame s.slot) } := by
  subst hp
  rw [exec, execWordLeaving, State.live_of_running running, State.fillChestSlot, Port.fillSlot_of_open unchosen,
    State.setPort]

/-! ### Bytes and symbols (R143, R144) -/

theorem toNat_append_eq {n m : Nat} (x : BitVec n) (y : BitVec m) : (x ++ y).toNat = x.toNat * 2 ^ m + y.toNat := by
  rw [BitVec.toNat_append, ← Nat.shiftLeft_add_eq_or_of_lt y.isLt, Nat.shiftLeft_eq]

namespace ValveWord

theorem halves_toNat (w : ValveWord) : w.firstHalf.toNat * 4096 + w.secondHalf.toNat = w.bits.toNat := by
  have small := w.bits.isLt
  rw [firstHalf, secondHalf, BitVec.extractLsb'_toNat, BitVec.extractLsb'_toNat, Nat.shiftRight_eq_div_pow]
  omega

theorem keys_toNat (a : KeyEvent) (b c : Option KeyEvent) : (keys a b c).bits.toNat
    = (eventByte (some a)).toNat * 65536 + (eventByte b).toNat * 256 + (eventByte c).toNat := by
  rw [bits, toNat_append_eq, toNat_append_eq]
  omega

theorem stop_toNat (code : BitVec 8) (ranks : Data12) :
    (code ++ (0 : BitVec 4) ++ ranks).toNat = code.toNat * 65536 + ranks.toNat := by
  rw [toNat_append_eq, toNat_append_eq]
  simp
  omega

end ValveWord

theorem eventByte_toNat (e : KeyEvent) : (eventByte (some e)).toNat = (if e.on then 128 else 0) + e.key.val := by
  obtain ⟨on, key⟩ := e
  revert on key
  decide

/-- Settles O48: the frame of a slot where the slot ends, the frame that WORD_LEAVING chooses, and the bytes. -/
theorem slotFrameChosen : Obligations.SlotFrameChosen := by
  refine ⟨fun s d f chosen => ?chosen, fun s running quiet => ⟨_, State.exec_deviceTimeAdvance_of_quiet running quiet,
      ?frame, fun d => ⟨fun f chosen => ?ends, fun unchosen => ⟨fun first => ?endsSync, fun later => ⟨fun h half => ?endsHalf,
        fun between => ?endsFill⟩⟩⟩⟩,
    fun s d p running hp unchosen => ⟨fun first => ?sync, fun later => ⟨fun h half => ?half, fun between =>
      ⟨fun w rest begins on queued credit => ?word, fun idle => ?fill⟩⟩⟩,
    ValveWord.halves_toNat, eventByte_toNat, rfl, ValveWord.keys_toNat,
    fun ranks => ⟨ValveWord.stop_toNat _ ranks, ValveWord.stop_toNat _ ranks⟩, rfl, rfl, rfl, rfl, rfl, rfl, rfl⟩
  case chosen =>
    have stays : s.fillChestSlot d = s := by
      rw [State.fillChestSlot, Port.fillSlot_of_chosen (Option.isSome_iff_exists.mpr ⟨f, chosen⟩), State.setPort_self]
    exact next_live_of_stays stays
  case frame =>
    obtain ⟨l, r, b, filled⟩ := s.fillReturnSlot_frame
    rw [filled]
  case ends => rw [ofFn_get, Port.fillSlot_nextSlot_of_chosen chosen]
  case endsSync =>
    rw [ofFn_get, Port.fillSlot_of_open unchosen, Port.chooseFrame_sync (slot := s.slot) first]
    rfl
  case endsHalf =>
    rw [ofFn_get, Port.fillSlot_of_open unchosen, Port.chooseFrame_half (slot := s.slot) later half]
    rfl
  case endsFill =>
    have idle : s.slot = 31 ∨ s.ports[d].wordReady = false := by
      have none : s.wordDue d = false := State.outstanding_of_nextOwn_none quiet (State.wordLeaving_mem_ownEvents d)
      have slot : s.slot ≠ 0 := later
      simpa [-Fin.getElem_fin, State.wordDue, unchosen, slot, between, or_iff_not_imp_left] using none
    rw [ofFn_get, Port.fillSlot_of_open unchosen, Port.chooseFrame_fill (slot := s.slot) later between idle]
    rfl
  all_goals rw [exec_wordLeaving_of_running running hp unchosen]
  case sync =>
    rw [Port.chooseFrame_sync (slot := s.slot) first]
    rfl
  case half =>
    rw [Port.chooseFrame_half (slot := s.slot) later half]
    rfl
  case word =>
    have ready : p.wordReady = true := Port.wordReady_iff.mpr ⟨on, by rw [queued]; nofun, credit⟩
    rw [Port.chooseFrame_word (slot := s.slot) later between ready begins, Port.beginWord_eq queued]
  case fill =>
    have idle : s.slot = 31 ∨ p.wordReady = false := by
      refine idle.imp_right fun none => Bool.eq_false_iff.mpr fun ready => ?_
      obtain ⟨on, queued, credit⟩ := Port.wordReady_iff.mp ready
      rcases none with h | h | h | h
      · simp [h] at on
      · simp [h] at on
      · exact queued h
      · omega
    rw [Port.chooseFrame_fill (slot := s.slot) later between idle]
    rfl

end Sys2Proof.Machine

/-! The return lane (10, R170 to R173, R176): O53 to O55. -/

namespace Sys2Proof.Machine

-- One proof at a time, for the memory limit of the check.
set_option Elab.async false

/-! ### Codes as places in a list (R171, R173) -/

theorem Mode.code_eq (m : Mode) : m.code = ([.idle, .countIn, .lead, .follow, .freeze, .starved] : List Mode).idxOf m := by
  cases m <;> rfl

theorem RowState.code_eq (x : RowState) :
    x.code = ([.empty, .pending, .gated, .releasing, .listen] : List RowState).idxOf x := by
  cases x <;> rfl

theorem GateMode.code_eq (m : GateMode) : m.code = ([.none, .sound, .drop] : List GateMode).idxOf m := by
  cases m <;> rfl

theorem PortState.code_eq (x : PortState) :
    x.code = ([.off, .active, .waiting, .stalled] : List PortState).idxOf x := by
  cases x <;> rfl

/-- The origin of a row by its number (R22). -/
theorem rowOrigin_code (r : RowNumber) : (rowOrigin r).code = if r.val < 192 then 0 else if r.val < 196 then 1 else 2 := by
  unfold rowOrigin
  split
  · rfl
  · split <;> rfl

/-! ### The frame of a slot (R170, R171) -/

namespace State

variable {s : State}

theorem anyStalled_iff : s.anyStalled = true ↔ ∃ d : Division, s.ports[d].state = .stalled := by
  simp [anyStalled, Fin.exists_fin_succ, or_assoc]

theorem beaconValue_eq (s : State) : s.beaconValue = BitVec.ofNat 6
    (([.idle, .countIn, .lead, .follow, .freeze, .starved] : List Mode).idxOf s.follower.mode * 8
      + (if s.nave.aligned.isSome then 4 else 0) + (if s.alertLow then 2 else 0)
      + (if ∃ d : Division, s.ports[d].state = .stalled then 1 else 0)) := by
  have stalled : flagAt s.anyStalled 0 = if ∃ d : Division, s.ports[d].state = .stalled then 1 else 0 :=
    if_congr anyStalled_iff rfl rfl
  rw [beaconValue, stalled, Mode.code_eq]
  rfl

theorem sendResponse_eq (s : State) (sent rest : List OutFrame) (f : OutFrame) :
    s.sendResponse ⟨sent ++ f :: rest, sent.length⟩ = { s with
      returnLine := ⟨some f, s.returnLine.last⟩
      response := if rest = [] then none else some ⟨sent ++ f :: rest, sent.length + 1⟩ } := by
  have frame : (sent ++ f :: rest)[sent.length]? = some f := by simp
  have more : sent.length + 1 < (sent ++ f :: rest).length ↔ ¬rest = [] := by
    rw [List.length_append, List.length_cons, ← ne_eq, ← List.length_pos_iff]
    omega
  simp only [sendResponse, frame, more, ite_not]
  rfl

theorem lastFrameDue_iff : s.lastFrameDue = true ↔ s.returnLine.now = none ∧ s.slot ≠ 0 ∧ s.beaconHalf = none
    ∧ ∃ r, s.response = some r ∧ r.sent + 1 = r.frames.length := by
  unfold lastFrameDue
  cases s.response <;> simp [and_assoc]

theorem takeBeacon_of_response (due : s.response.isSome = true) : s.takeBeacon = s :=
  if_neg (by rw [Option.isNone_eq_false_iff.mpr due]; exact Bool.false_ne_true)

theorem takeBeacon_of_none (none : s.response = .none) : s.takeBeacon = s.fillReturnSlot :=
  if_pos (Option.isNone_iff_eq_none.mpr none)

end State

/-- A line at the end of a slot whose frame is chosen. -/
theorem Line.next_of_chosen {l : Line} {g : OutFrame} (chosen : l.now = some g) : l.next = ⟨none, g⟩ := by
  rw [next, chosen]
  rfl

/-- Settles O55: each rule of R170, the two events of the lane, and the end of a quiet slot. -/
theorem beaconAndResponse : Obligations.BeaconAndResponse := by
  refine ⟨fun s => ⟨fun chosen => ?beaconStays, fun none => ?completeStays⟩,
    fun s => ⟨fun first => State.chooseReturn_sync first, fun later => ⟨fun w half => State.chooseReturn_half later half,
      fun sent rest f between due => ?response, fun between none => ⟨fun last => State.chooseReturn_fill last between none,
        fun begins => ?beacon⟩⟩⟩,
    fun s running unchosen none => ?takesBeacon, fun s sent f running unchosen between later due => ?completes,
    fun s f g running quiet chosen unchosen frame => ?allChosen,
    fun s running quiet => ⟨_, State.exec_deviceTimeAdvance_of_quiet running quiet, fun g chosen => ?chosen,
      fun g unchosen frame => ?chooses⟩,
    rfl, rfl, fun v => ⟨rfl, rfl⟩⟩
  case beaconStays =>
    have stays : s.takeBeacon = s := by
      obtain due | due := s.response.eq_none_or_eq_some
      · have chosen := chosen.resolve_right (by rw [due]; nofun)
        rw [State.takeBeacon_of_none due, State.fillReturnSlot_of_chosen chosen]
      · exact State.takeBeacon_of_response (Option.isSome_iff_exists.mpr due)
    exact next_live_of_stays stays
  case completeStays =>
    have stays : s.takeResponseComplete = s := by
      refine if_neg fun due => ?_
      obtain ⟨unchosen, later, between, r, due, last⟩ := State.lastFrameDue_iff.mp due
      rcases none with h | h | h | h
      · rw [unchosen] at h
        cases h
      · exact later h
      · rw [between] at h
        cases h
      · exact h r due last
    exact next_live_of_stays stays
  case response => rw [State.chooseReturn_response later between due, State.sendResponse_eq]
  case beacon =>
    rw [State.chooseReturn_beacon later begins between none, State.beaconValue_eq]
    rfl
  case takesBeacon =>
    rw [exec, execBeacon, State.live_of_running running, State.takeBeacon_of_none none,
      State.fillReturnSlot_of_open unchosen]
  case completes =>
    have last : s.lastFrameDue = true :=
      State.lastFrameDue_iff.mpr ⟨unchosen, later, between, _, due, by simp⟩
    rw [exec, execResponseComplete, State.live_of_running running, State.takeResponseComplete, if_pos last]
  case allChosen =>
    rw [State.exec_deviceTimeAdvance_of_quiet running quiet, State.fillReturnSlot_of_open unchosen,
      Line.next_of_chosen frame]
    simp only [Port.fillSlot_nextSlot_of_chosen (chosen _)]
  case chosen =>
    rw [State.fillReturnSlot_of_chosen (Option.isSome_iff_exists.mpr ⟨g, chosen⟩), Line.next_of_chosen chosen]
  case chooses => rw [State.fillReturnSlot_of_open unchosen, Line.next_of_chosen frame]

/-! ### CLEAR, counters and flags (R174 to R176) -/

theorem State.clear_eq {s : State} {p : Data12} {rest : List Handed} {t : State} (running : s.Running)
    (handed : s.handed = .clear p :: rest) (cleared : ({ s with handed := rest } : State).clear p = t) :
    exec .clear s = .next t := by
  rw [exec_clear_of_handed running handed, cleared]

namespace AlertFlag

theorem bit_inj {f g : AlertFlag} : f.bit = g.bit ↔ f = g := by
  cases f <;> cases g <;> decide

theorem bit_lt (f : AlertFlag) : f.bit < 7 := by cases f <;> decide

theorem exists_bit : ∀ i < 7, ∃ f : AlertFlag, f.bit = i
  | 0, _ => ⟨.lockLost, rfl⟩
  | 1, _ => ⟨.starved, rfl⟩
  | 2, _ => ⟨.stall, rfl⟩
  | 3, _ => ⟨.creditOverflow, rfl⟩
  | 4, _ => ⟨.gateExpired, rfl⟩
  | 5, _ => ⟨.tagInUse, rfl⟩
  | 6, _ => ⟨.outOfOrder, rfl⟩

end AlertFlag

namespace State

variable (s : State)

theorem raise_toNat (c k : Counter) : (s.raise c).counters[k].toNat
    = if k = c then min (s.counters[k].toNat + 1) 4095 else s.counters[k].toNat := by
  rw [raise_get]
  by_cases same : c = k
  · subst same
    rw [if_pos rfl, if_pos rfl, saturatingAdd_toNat]
  · rw [if_neg same, if_neg (Ne.symm same)]

theorem setFlag_flag (f g : AlertFlag) : (s.setFlag f).flag g = (decide (g = f) || s.flag g) := by
  have own : (BitVec.ofNat 7 (2 ^ f.bit)).getLsbD g.bit = decide (g = f) := by
    rw [BitVec.getLsbD_ofNat, Nat.testBit_two_pow, decide_eq_true (AlertFlag.bit_lt g), Bool.true_and]
    exact decide_eq_decide.mpr (eq_comm.trans AlertFlag.bit_inj)
  rw [setFlag, flag, BitVec.getLsbD_or, own, Bool.or_comm, flag]

/-- A mask that a word meets is one that it meets at the bit of a flag. -/
theorem and_ne_zero_iff {x : BitVec 7} {w : Data12} : (x &&& w.extractLsb' 0 7) ≠ 0 ↔
    ∃ f : AlertFlag, x.getLsbD f.bit = true ∧ w.getLsbD f.bit = true := by
  have meets : ∀ i < 7, (x &&& w.extractLsb' 0 7).getLsbD i = (x.getLsbD i && w.getLsbD i) := fun i small => by
    rw [BitVec.getLsbD_and, BitVec.getLsbD_extractLsb', decide_eq_true small, Bool.true_and, zero_add]
  have zeros : ∀ i, (0 : BitVec 7).getLsbD i = false := fun _ => BitVec.getLsbD_zero
  constructor
  · intro ne
    by_contra none
    refine ne (BitVec.eq_of_getLsbD_eq fun i small => ?_)
    obtain ⟨f, rfl⟩ := AlertFlag.exists_bit i small
    rw [meets _ small, zeros, Bool.eq_false_iff, ne_eq, Bool.and_eq_true]
    exact fun both => none ⟨f, both⟩
  · rintro ⟨f, set, masked⟩ zero
    have met := meets _ (AlertFlag.bit_lt f)
    rw [zero, zeros, set, masked] at met
    cases met

theorem alertLow_iff : s.alertLow = true ↔ s.Running
    ∧ ∃ f : AlertFlag, s.flag f = true ∧ s.tables.control.w1.getLsbD f.bit = true := by
  rw [alertLow, Bool.and_eq_true, Bool.not_eq_true', bne_iff_ne, ControlRow.alertMask, and_ne_zero_iff]
  rfl

end State

/-- Settles O54: the numbers, CLEAR 1 to 3, and what a raise and a set flag do. -/
theorem countersAndFlags : Obligations.CountersAndFlags := by
  refine ⟨⟨rfl, rfl, fun s f => rfl⟩, fun s p rest running handed => ⟨?one, ?two, ?three⟩,
    fun s c k => ?raise, fun s f g => ?flag, fun s => ?alert⟩
  case one =>
    rintro rfl
    exact State.clear_eq running handed rfl
  case two =>
    rintro rfl
    exact State.clear_eq running handed rfl
  case three =>
    rintro rfl
    exact State.clear_eq running handed rfl
  case raise => exact s.raise_toNat c k
  case flag => exact s.setFlag_flag f g
  case alert => exact s.alertLow_iff

end Sys2Proof.Machine

/-! READ and the words of each target (R172, R173): O53. -/

namespace Sys2Proof.Machine

-- One proof at a time, for the memory limit of the check.
set_option Elab.async false

/-! ### The words of the state, as the layouts give them (R173) -/

theorem append_values_eq (u v : Value6) : (u ++ v : Data12) = BitVec.ofNat 12 (u.toNat * 64 + v.toNat) := by
  rw [← toNat_append_values, BitVec.ofNat_toNat, BitVec.setWidth_eq]

theorem Follower.words_eq (f : Follower) : f.words =
    [BitVec.ofNat 12 (([.idle, .countIn, .lead, .follow, .freeze, .starved] : List Mode).idxOf f.mode * 512
        + f.matchCount * 64 + (if f.freeze.isSome then 32 else 0))]
      ++ splitWord f.period ++ splitWord f.ta.toNat ++ splitWord f.ba
      ++ splitWord ((f.freeze.map FreezeRecord.position).getD 0) := by
  rw [words, Mode.code_eq]
  cases f.freeze <;> rfl

theorem State.rowWords_eq (s : State) (i : RowNumber) : s.rowWords i =
    [BitVec.ofNat 12
        (([.empty, .pending, .gated, .releasing, .listen] : List RowState).idxOf s.cues[i].rowState * 512
          + (if i.val < 192 then 0 else if i.val < 196 then 1 else 2) * 128
          + ([.none, .sound, .drop] : List GateMode).idxOf s.cues[i].gateMode * 32
          + (if s.cues[i].syllable then 16 else 0) + (if s.cues[i].fermata then 8 else 0)
          + (if s.cues[i].armed.isSome then 4 else 0) + (if s.updateMarks[i] then 2 else 0)),
      BitVec.ofNat 12
        ((if s.cues[i].released[3] then 2048 else 0) + (if s.cues[i].released[2] then 1024 else 0)
          + (if s.cues[i].released[1] then 512 else 0) + (if s.cues[i].released[0] then 256 else 0)
          + (if s.cues[i].westMark then 128 else 0) + (if s.cues[i].eastMark then 64 else 0)
          + s.cues[i].position / 4096 * 16 + s.cues[i].regSet.toNat),
      BitVec.ofNat 12 (s.cues[i].position % 4096),
      BitVec.ofNat 12 (s.cues[i].voices.soprano.toNat * 64 + s.cues[i].voices.alto.toNat),
      BitVec.ofNat 12 (s.cues[i].voices.tenor.toNat * 64 + s.cues[i].voices.bass.toNat)]
      ++ splitWord ((s.cues[i].armed.map BitVec.toNat).getD 0) := by
  rw [rowWords]
  rw [RowState.code_eq, rowOrigin_code, GateMode.code_eq, append_values_eq, append_values_eq]
  cases s.cues[i].armed <;> rfl

theorem State.portWords_eq (s : State) (d : Division) : s.portWords d =
    [BitVec.ofNat 12
        (([.off, .active, .waiting, .stalled] : List PortState).idxOf s.ports[d].state * 1024
          + s.ports[d].queue.length * 64 + s.ports[d].credits * 8 + (if s.ports[d].owedAllOff then 4 else 0)),
      BitVec.ofNat 12 ((s.divisions[d].currentSet.map fun c => 16 + c.toNat).getD 0)] := by
  rw [portWords]
  rw [PortState.code_eq]
  cases s.divisions[d].currentSet <;> rfl

/-! ### Targets and rows (R172) -/

/-- A table of `n` rows, read at a row that may lie past its end. -/
theorem dite_row_eq_some_iff {α : Type} {n row : Nat} {f : Fin n → α} {x : α} :
    (if h : row < n then some (f ⟨row, h⟩) else none) = some x ↔ ∃ i : Fin n, row = i.val ∧ x = f i := by
  constructor
  · intro h
    split at h
    · next small => exact ⟨⟨row, small⟩, rfl, (Option.some.inj h).symm⟩
    · cases h
  · rintro ⟨i, rfl, rfl⟩
    exact dif_pos i.isLt

theorem ite_zero_eq_some_iff {α : Type} {row : Nat} {x y : α} :
    (if row = 0 then some y else none) = some x ↔ row = 0 ∧ x = y := by
  rw [Option.ite_none_right_eq_some, Option.some.injEq, eq_comm (a := y)]

namespace State

variable {s : State} {row : Nat} {words : List Data12}

theorem counterWords_eq_some_iff : s.counterWords row = some words ↔
    (∃ i : Fin 5, ∃ a b c d : Counter, row = i.val ∧ a.val = 4 * i.val ∧ b.val = 4 * i.val + 1 ∧ c.val = 4 * i.val + 2
      ∧ d.val = 4 * i.val + 3 ∧ words = [s.counters[a], s.counters[b], s.counters[c], s.counters[d]])
    ∨ row = 5 ∧ words = [s.counters[(20 : Counter)], 0, 0, 0] := by
  unfold counterWords
  constructor
  · intro h
    split at h
    · next small =>
      refine Or.inl ⟨⟨row, small⟩, ⟨row * 4, by omega⟩, ⟨row * 4 + 1, by omega⟩, ⟨row * 4 + 2, by omega⟩,
        ⟨row * 4 + 3, by omega⟩, rfl, Nat.mul_comm .., congrArg (· + 1) (Nat.mul_comm ..),
        congrArg (· + 2) (Nat.mul_comm ..), congrArg (· + 3) (Nat.mul_comm ..), (Option.some.inj h).symm⟩
    · split at h
      · next last => exact Or.inr ⟨last, (Option.some.inj h).symm⟩
      · cases h
  · rintro (⟨i, a, b, c, d, rfl, ha, hb, hc, hd, rfl⟩ | ⟨rfl, rfl⟩)
    · rw [dif_pos i.isLt]
      simp [ha, hb, hc, hd, Nat.mul_comm]
    · rfl

/-! Each target that READ answers. -/

theorem readWords_control : s.readWords 0 row = some words ↔
    row = 0 ∧ words = [s.tables.control.w0, s.tables.control.w1] :=
  ite_zero_eq_some_iff

theorem readWords_loft : s.readWords 1 row = some words ↔ ∃ i : Fin 2, row = i.val ∧ words = [s.tables.loft[i]] :=
  dite_row_eq_some_iff (f := fun i : Fin 2 => [s.tables.loft[i]])

theorem readWords_division : s.readWords 2 row = some words ↔ ∃ i : Fin 4, row = i.val ∧ words =
    [s.tables.division[i].w0, s.tables.division[i].w1, s.tables.division[i].w2] :=
  dite_row_eq_some_iff (f := fun i : Fin 4 =>
    [s.tables.division[i].w0, s.tables.division[i].w1, s.tables.division[i].w2])

theorem readWords_profile : s.readWords 3 row = some words ↔ ∃ i : Fin 8, row = i.val ∧ words =
    [s.tables.profile[i].w0, s.tables.profile[i].w1, s.tables.profile[i].w2, s.tables.profile[i].w3,
      s.tables.profile[i].w4] :=
  dite_row_eq_some_iff (f := fun i : Fin 8 => [s.tables.profile[i].w0, s.tables.profile[i].w1,
    s.tables.profile[i].w2, s.tables.profile[i].w3, s.tables.profile[i].w4])

theorem readWords_registration : s.readWords 4 row = some words ↔ ∃ i : Fin 64, row = i.val ∧ words =
    [s.tables.registration[i].w0, s.tables.registration[i].w1, s.tables.registration[i].w2] :=
  dite_row_eq_some_iff (f := fun i : Fin 64 =>
    [s.tables.registration[i].w0, s.tables.registration[i].w1, s.tables.registration[i].w2])

theorem readWords_follower : s.readWords 5 row = some words ↔ row = 0 ∧ words = s.follower.words :=
  ite_zero_eq_some_iff

theorem readWords_cues : s.readWords 6 row = some words ↔ ∃ i : RowNumber, row = i.val ∧ words = s.rowWords i :=
  dite_row_eq_some_iff (f := fun i : RowNumber => s.rowWords i)

theorem readWords_counters : s.readWords 7 row = some words ↔
    (∃ i : Fin 5, ∃ a b c d : Counter, row = i.val ∧ a.val = 4 * i.val ∧ b.val = 4 * i.val + 1 ∧ c.val = 4 * i.val + 2
      ∧ d.val = 4 * i.val + 3 ∧ words = [s.counters[a], s.counters[b], s.counters[c], s.counters[d]])
    ∨ row = 5 ∧ words = [s.counters[(20 : Counter)], 0, 0, 0] :=
  counterWords_eq_some_iff

theorem readWords_ports : s.readWords 8 row = some words ↔ ∃ i : Division, row = i.val ∧ words = s.portWords i :=
  dite_row_eq_some_iff (f := fun i : Division => s.portWords i)

theorem readWords_flags : s.readWords 9 row = some words ↔ row = 0 ∧ words = [s.flags.setWidth 12] :=
  ite_zero_eq_some_iff

/-- There is no other target (R172). -/
theorem readWords_of_large {target : Nat} (large : 10 ≤ target) : s.readWords target row = none := by
  obtain ⟨n, rfl⟩ := Nat.exists_eq_add_of_le' large
  rfl

theorem read_of_refused {p : Data12} (refused : s.response.isSome = true ∨ s.readWords (field p 8 4) (field p 0 8) = none) :
    s.read p = s.raise Counter.readsRefused := by
  unfold read
  split
  · next none found =>
    rw [none, found] at refused
    simp at refused
  · rfl

theorem read_of_answered {p : Data12} (free : s.response = none)
    (found : s.readWords (field p 8 4) (field p 0 8) = some words) :
    s.read p = { s with response := some (responseOf (field p 8 4) (field p 0 8) words) } := by
  simp only [read, free, found]

theorem exec_read_of_handed {p : Data12} {rest : List Handed} (running : s.Running) (handed : s.handed = .read p :: rest) :
    exec .read s = .next (({ s with handed := rest } : State).read p) := by
  rw [exec, execRead, live_of_running running]
  simp only [takeRead, handed]

end State

/-- Settles O53: the answer and the refusal, and the words target by target. -/
theorem readAnsweredOrRefused : Obligations.ReadAnsweredOrRefused := by
  intro s p rest target row running handed htarget hrow
  have small := p.isLt
  have fields : field p 8 4 = target ∧ field p 0 8 = row := by
    rw [field_toNat, field_toNat]
    omega
  obtain ⟨rfl, rfl⟩ := fields
  refine ⟨fun refused => ?refused, fun words free found => ?answered, fun words => ?words⟩
  case refused =>
    exact (State.exec_read_of_handed running handed).trans
      (congrArg _ (State.read_of_refused (s := { s with handed := rest }) refused))
  case answered =>
    exact (State.exec_read_of_handed running handed).trans
      (congrArg _ (State.read_of_answered (s := { s with handed := rest }) free found))
  case words =>
    rw [← Follower.words_eq]
    simp only [← State.rowWords_eq, ← State.portWords_eq]
    generalize field p 8 4 = target
    generalize field p 0 8 = row
    have targets : target = 0 ∨ target = 1 ∨ target = 2 ∨ target = 3 ∨ target = 4 ∨ target = 5 ∨ target = 6 ∨ target = 7
        ∨ target = 8 ∨ target = 9 ∨ 10 ≤ target := by omega
    rcases targets with rfl | rfl | rfl | rfl | rfl | rfl | rfl | rfl | rfl | rfl | large
    case inr.inr.inr.inr.inr.inr.inr.inr.inr.inr =>
      rw [State.readWords_of_large large]
      refine ⟨nofun, ?_⟩
      omega
    all_goals
      simp only [State.readWords_control, State.readWords_loft, State.readWords_division, State.readWords_profile,
        State.readWords_registration, State.readWords_follower, State.readWords_cues, State.readWords_counters,
        State.readWords_ports, State.readWords_flags, Nat.reduceEqDiff, true_and, false_and, or_false, false_or]

end Sys2Proof.Machine

/-! The device's own events are outstanding just while taking them changes the state (95, log 2, log 3). -/

namespace Sys2Proof.Machine

-- One proof at a time, for the memory limit of the check.
set_option Elab.async false

/-- The own events that are outstanding just while taking them changes the state (log 2); the frames of a slot, which
are chosen in any case (log 4), are the others. -/
def changesState : Instr → Bool
  | .load | .chordMessage | .read | .hymn | .start | .stop | .gate | .flush | .clear | .lockLoss | .receiveLockLoss _
  | .freezeEntry | .allOffEntry _ | .heldReleaseOffer _ | .release _ | .arm | .gateSoundExpiry | .gateDropExpiry
  | .fermataExpiry | .silenceFall | .starvationEntry | .stall _ | .listenExpiry _ => true
  | _ => false

/-! ### Where no event is outstanding, taking it changes nothing -/

namespace State

variable {s : State} {c : Instr} {d : Division} {r : RowNumber}

theorem eq_none_of_isSome {α : Type} {o : Option α} (not : o.isSome = false) : o = none :=
  Option.isNone_iff_eq_none.mp (Option.isSome_eq_false_iff.mp not)

/-- An own event that is not outstanding changes nothing. -/
theorem takeOwn_of_not_outstanding (own : changesState c = true) (not : s.outstanding c = false) : s.takeOwn c = s := by
  have message : ∀ {c}, c ∈ messageEvents → s.nextHanded c = false → s.takeOwn c = s := fun {c} message no => by
    refine takeOwn_of_other message fun h rest handed event => ?_
    rw [nextHanded, handed, ← event] at no
    simp at no
  cases c with
  | chordMessage => exact message (by decide) not
  | read => exact message (by decide) not
  | hymn => exact message (by decide) not
  | start => exact message (by decide) not
  | stop => exact message (by decide) not
  | gate => exact message (by decide) not
  | flush => exact message (by decide) not
  | clear => exact message (by decide) not
  | load => exact openLoad_of_none (eq_none_of_isSome not)
  | lockLoss => exact if_neg (Bool.eq_false_iff.mp not)
  | receiveLockLoss d => exact if_neg (Bool.eq_false_iff.mp not)
  | listenExpiry r => exact if_neg (Bool.eq_false_iff.mp not)
  | silenceFall => exact if_neg (Bool.eq_false_iff.mp not)
  | starvationEntry => exact if_neg (Bool.eq_false_iff.mp not)
  | allOffEntry d => exact if_neg (Bool.eq_false_iff.mp not)
  | stall d => exact takeStall_of_not not
  | freezeEntry =>
    have none : s.freezeRow = .none := eq_none_of_isSome not
    simp only [takeOwn, takeFreezeEntry, none]
  | arm => exact armReached_of_none (eq_none_of_isSome not)
  | gateSoundExpiry =>
    have none : s.expiredGate .sound = .none := eq_none_of_isSome not
    simp only [takeOwn, takeGateSoundExpiry, none]
  | gateDropExpiry =>
    have none : s.expiredGate .drop = .none := eq_none_of_isSome not
    simp only [takeOwn, takeGateDropExpiry, none]
  | fermataExpiry =>
    have none : s.expiredFreeze = .none := eq_none_of_isSome not
    simp only [takeOwn, takeFermataExpiry, none]
  | release d => exact takeRelease_of_none (eq_none_of_isSome not)
  | heldReleaseOffer d =>
    have none : s.offerRow d = .none := eq_none_of_isSome not
    simp only [takeOwn, takeOffer, none]
  | _ => cases own

/-! ### A message taken leaves the line of messages (R13) -/

theorem armReached_handed (s : State) : s.armReached.handed = s.handed := by
  unfold armReached
  split <;> rfl

theorem openRow_handed (s : State) (r : RowNumber) : (s.openRow r).handed = s.handed := by
  unfold openRow
  split <;> rfl

theorem placeCue_handed (s : State) (r : RowNumber) (x : CueRow) : (s.placeCue r x).handed = s.handed := by
  unfold placeCue
  split
  · rfl
  · split <;> rfl

theorem placeChord_handed (s : State) (base : Fin 50) (d1 d2 d3 d4 : Data12) :
    (s.placeChord base d1 d2 d3 d4).handed = s.handed :=
  placeChord_keeps (P := fun t => t.handed = s.handed) base d1 d2 d3 d4 (fun _ same => same) (fun _ same => same)
    (fun t _ _ same => (t.placeCue_handed _ _).trans same) s rfl

theorem hymn_handed (s : State) (d1 d2 : Data12) : (s.hymn d1 d2).handed = s.handed := by
  unfold hymn
  split <;> rfl

theorem start_handed (s : State) (d1 : Data12) : (s.start d1).handed = s.handed := by
  unfold start
  split
  · split
    · exact armReached_handed _
    · rfl
  · rfl

theorem stop_handed (s : State) : s.stop.handed = s.handed := by
  by_cases idle : s.follower.mode = .idle
  · rw [stop_of_refused idle]
    rfl
  · rw [stop_eq idle, forDivisions_quiet]
    rfl

theorem gate_handed (s : State) : s.gate.handed = s.handed := by
  have opened : ∀ r, (s.openGateNow r).armReached.handed = s.handed := fun r =>
    (armReached_handed _).trans (openRow_handed s r)
  unfold gate
  split
  · split
    · exact opened _
    · rfl
  · split
    · exact opened _
    · rfl
  · split
    · dsimp only
      split
      · exact opened _
      · exact (armReached_handed _).trans (openRow_handed s _)
    · rfl
  all_goals rfl

theorem flush_handed (s : State) (p : Data12) : (s.flush p).handed = s.handed := by
  unfold flush
  split
  · refine forDivisions_keeps (P := fun t => t.handed = s.handed) (fun d t same => ?_) s rfl
    split
    · unfold flushPort
      split <;> exact same
    · exact same
  · rfl

theorem clear_handed (s : State) (p : Data12) : (s.clear p).handed = s.handed := by
  unfold clear
  split <;> rfl

theorem read_handed (s : State) (p : Data12) : (s.read p).handed = s.handed := by
  unfold read
  split <;> rfl

theorem takeOwn_handed {h : Handed} {rest : List Handed} (handed : s.handed = h :: rest) :
    (s.takeOwn h.event).handed = rest := by
  cases h with
  | chord base d1 d2 d3 d4 =>
    simp only [Handed.event, takeOwn, takeChordMessage, handed]
    exact placeChord_handed { s with handed := rest } ..
  | read p =>
    simp only [Handed.event, takeOwn, takeRead, handed]
    exact read_handed { s with handed := rest } p
  | hymn d1 d2 =>
    simp only [Handed.event, takeOwn, takeHymn, handed]
    exact hymn_handed { s with handed := rest } d1 d2
  | start d1 =>
    simp only [Handed.event, takeOwn, takeStart, handed]
    exact start_handed { s with handed := rest } d1
  | stop =>
    simp only [Handed.event, takeOwn, takeStop, handed]
    exact stop_handed { s with handed := rest }
  | gate =>
    simp only [Handed.event, takeOwn, takeGate, handed]
    exact gate_handed { s with handed := rest }
  | flush p =>
    simp only [Handed.event, takeOwn, takeFlush, handed]
    exact flush_handed { s with handed := rest } p
  | clear p =>
    simp only [Handed.event, takeOwn, takeClear, handed]
    exact clear_handed { s with handed := rest } p

theorem takeOwn_ne_of_nextHanded (next : s.nextHanded c = true) : s.takeOwn c ≠ s := by
  rw [nextHanded, decide_eq_true_eq, Option.map_eq_some_iff] at next
  obtain ⟨h, front, rfl⟩ := next
  obtain ⟨rest, handed⟩ := List.head?_eq_some_iff.mp front
  refine ne_of_apply_ne State.handed ?_
  rw [takeOwn_handed handed, handed]
  exact (List.cons_ne_self h rest).symm

/-! ### Locks and streams (R9, R14, R145) -/

theorem openLoad_ne (waits : s.assembly.completeLoad.isSome = true) : s.openLoad ≠ s := by
  refine ne_of_apply_ne (fun t => t.assembly.completeLoad) ?_
  rw [openLoad_opened]
  exact (Option.ne_none_iff_isSome.mpr waits).symm

theorem takeLockLoss_ne (out : s.nave.timedOut s.deviceTime = true) : s.takeLockLoss ≠ s := by
  obtain ⟨locked, -⟩ := FrameLock.timedOut_iff.mp out
  have lost : s.takeLockLoss.nave.aligned = none := by
    rw [takeLockLoss, if_pos out, loseLock_eq]
  refine ne_of_apply_ne (fun t => t.nave.aligned) ?_
  rw [lost]
  exact (Option.ne_none_iff_isSome.mpr locked).symm

theorem setPort_ne {α : Type} {p : Port} (f : Port → α) (other : f p ≠ f s.ports[d]) : s.setPort d p ≠ s := by
  refine ne_of_apply_ne (fun t => f t.ports[d]) ?_
  rwa [setPort_get, if_pos rfl]

theorem takeReceiveLockLoss_ne (out : s.ports[d].rx.timedOut s.deviceTime = true) : s.takeReceiveLockLoss d ≠ s := by
  obtain ⟨locked, -⟩ := FrameLock.timedOut_iff.mp out
  rw [takeReceiveLockLoss, if_pos out]
  exact setPort_ne (fun p => p.rx.aligned) (Option.ne_none_iff_isSome.mpr locked).symm

/-! ### The follower's entries (R39, R55, R56, R59) -/

theorem takeFreezeEntry_ne (enters : s.freezeRow = some r) : s.takeFreezeEntry ≠ s := by
  have runs : s.follower.mode.running = true := by
    by_contra stands
    rw [freezeRow, if_neg stands] at enters
    cases enters
  have freezes : s.takeFreezeEntry.follower.mode = .freeze := by
    simp only [takeFreezeEntry, enters]
    rfl
  refine ne_of_apply_ne (fun t => t.follower.mode) fun same => ?_
  rw [freezes] at same
  rw [← same] at runs
  cases runs

theorem takeSilenceFall_ne (falls : s.silenceFalls = true) : s.takeSilenceFall ≠ s := by
  obtain ⟨follow, -⟩ := silenceFalls_iff.mp falls
  rw [takeSilenceFall, if_pos falls]
  refine ne_of_apply_ne (fun t => t.follower.mode) fun same => ?_
  exact absurd (same.trans follow) nofun

theorem takeStarvationEntry_ne (starves : s.starves = true) : s.takeStarvationEntry ≠ s := by
  obtain ⟨runs, -, -⟩ := starves_iff.mp starves
  have starved : s.takeStarvationEntry.follower.mode = .starved := by
    rw [takeStarvationEntry, if_pos starves, forDivisions_quiet]
    rfl
  refine ne_of_apply_ne (fun t => t.follower.mode) fun same => ?_
  rcases runs with mode | mode <;> exact absurd (starved.symm.trans (same.trans mode)) nofun

theorem takeListenExpiry_ne (ends : s.listenEnds r = true) : s.takeListenExpiry r ≠ s := by
  obtain ⟨listen, -, -⟩ := listenEnds_iff.mp ends
  rw [takeListenExpiry, if_pos ends]
  refine ne_of_apply_ne (fun t => t.cues[r].rowState) fun same => ?_
  rw [setRow_get, if_pos rfl] at same
  exact absurd (same.trans listen) nofun

/-! ### Gates and the end of a freeze (R83, R89, R90, R98) -/

theorem armReached_ne (row : s.armRow = some r) : s.armReached ≠ s := by
  obtain ⟨-, -, -, -, unarmed⟩ := armRow_eq_some_iff.mp row
  have armed : s.armReached = s.setRow r { s.cues[r] with armed := some s.deviceTime } := armReached_of_armRow row
  rw [armed]
  refine ne_of_apply_ne (fun t => t.cues[r].armed) fun same => ?_
  dsimp only at same
  rw [setRow_get, if_pos rfl] at same
  exact absurd (same.trans unarmed) nofun

/-- Arming is no change of a row's state. -/
theorem armReached_rowState (s : State) (r : RowNumber) : s.armReached.cues[r].rowState = s.cues[r].rowState := by
  unfold armReached
  split
  · rw [setRow_get]
    split
    · next same => rw [← same]
    · rfl
  · rfl

theorem armReached_follower (s : State) : s.armReached.follower = s.follower := by
  unfold armReached
  split <;> rfl

theorem takeGateSoundExpiry_ne (expired : s.expiredGate .sound = some r) : s.takeGateSoundExpiry ≠ s := by
  have gated : s.noteGateExpiry.cues[r].rowState = .gated := earliestGated_gated (expiredGate_eq expired)
  have opens : s.takeGateSoundExpiry.cues[r].rowState = .pending := by
    simp only [takeGateSoundExpiry, expired]
    rw [armReached_rowState, openGateNow_eq gated]
    exact congrArg CueRow.rowState ((s.setRow_get r r _).trans (if_pos rfl))
  refine ne_of_apply_ne (fun t => t.cues[r].rowState) fun same => ?_
  exact absurd (opens.symm.trans (same.trans gated)) nofun

theorem takeGateDropExpiry_ne (expired : s.expiredGate .drop = some r) : s.takeGateDropExpiry ≠ s := by
  have gated : s.cues[r].rowState = .gated := earliestGated_gated (expiredGate_eq expired)
  have drops : s.takeGateDropExpiry.cues[r].rowState = .empty := by
    simp only [takeGateDropExpiry, expired]
    rw [armReached_rowState, dropRow_eq]
    exact congrArg CueRow.rowState ((s.setRow_get r r _).trans (if_pos rfl))
  refine ne_of_apply_ne (fun t => t.cues[r].rowState) fun same => ?_
  exact absurd (drops.symm.trans (same.trans gated)) nofun

theorem takeFermataExpiry_ne {z : FreezeRecord} (expired : s.expiredFreeze = some z) : s.takeFermataExpiry ≠ s := by
  obtain ⟨freezes, -, -⟩ := expiredFreeze_eq_some_iff.mp expired
  have leads : s.takeFermataExpiry.follower.mode = .lead := by
    simp only [takeFermataExpiry, expired]
    rw [armReached_follower]
    rfl
  refine ne_of_apply_ne (fun t => t.follower.mode) fun same => ?_
  exact absurd (leads.symm.trans (same.trans freezes)) nofun

/-! ### Releases and stalls (R107 to R112, R149, R151) -/

theorem enterAllOff_ne (ready : s.ports[d].allOffReady = true) : s.enterAllOff d ≠ s := by
  obtain ⟨owed, -, -⟩ := Port.allOffReady_iff.mp ready
  rw [enterAllOff, if_pos ready, Port.enterAllOff_eq]
  exact setPort_ne Port.owedAllOff fun same => Bool.false_ne_true (same.trans owed)

theorem takeOffer_ne (offer : s.offerRow d = some r) : s.takeOffer d ≠ s := by
  obtain ⟨due, waits, -⟩ := offerRow_eq_some_iff.mp offer
  cases fits : s.ports[d].fits (s.computeCue d r).run with
  | true =>
    have active : (s.takeOffer d).ports[d].state = .active := by
      rw [takeOffer_of_fits offer fits, withdraw_enterRelease_eq waits]
      exact congrArg Port.state ((s.setPort_get d d _).trans (if_pos rfl))
    refine ne_of_apply_ne (fun t => t.ports[d].state) fun same => ?_
    exact absurd (active.symm.trans (same.trans waits)) nofun
  | false =>
    rw [takeOffer_of_full offer fits]
    exact setPort_ne Port.offerDue fun same => Bool.false_ne_true (same.trans due)

theorem markReleased_marked (s : State) (d : Division) (r : RowNumber) :
    (s.markReleased d r).cues[r].released[d] = true := by
  have row : (s.markReleased d r).cues[r] = s.cues[r].release d := (s.setRow_get r r _).trans (if_pos rfl)
  rw [row, CueRow.release_released_get, if_pos rfl]

theorem takeRelease_ne (sound : s.PortsSound) (due : s.releaseRow d = some r) : s.takeRelease d ≠ s := by
  obtain ⟨free, dueRow⟩ := releaseRow_eq_some_iff.mp due
  have unmarked : s.cues[r].released[d] = false := by
    obtain ⟨-, -, earliest, -⟩ := dueRow_eq_some_iff.mp dueRow
    simpa using List.find?_some earliest
  have ne_of_marked : ∀ t : State, t.cues[r].released[d] = true → t ≠ s := fun t marked =>
    ne_of_apply_ne (fun t => t.cues[r].released[d]) fun same =>
      Bool.false_ne_true (unmarked.symm.trans (same.symm.trans marked))
  have takes : s.takeRelease d = s.releaseTo d r := by simp only [takeRelease, due]
  rw [takes]
  cases state : s.ports[d].state with
  | off =>
    rw [releaseTo_off r state]
    exact ne_of_marked _ (s.markReleased_marked d r)
  | stalled =>
    rw [releaseTo_stalled r state, releaseUnheard_eq]
    exact ne_of_marked _ (s.markReleased_marked d r)
  | active =>
    cases fits : s.ports[d].fits (s.computeCue d r).run with
    | true =>
      rw [releaseTo_fits state fits, enterRelease_eq]
      exact ne_of_marked _ (s.markReleased_marked d r)
    | false =>
      rw [releaseTo_held state fits]
      refine ne_of_apply_ne (fun t => t.held[d]) fun same => ?_
      exact absurd ((s.hold_held d r).symm.trans (same.trans free)) nofun
  | waiting =>
    obtain ⟨-, -, -, holds, -⟩ := sound d
    exact absurd (holds.mp state) (by rw [free]; nofun)

theorem stallPort_state (s : State) (d : Division) : (s.stallPort d).ports[d].state = .stalled := by
  have stalled : (s.setPort d s.ports[d].stalled).ports[d].state = .stalled :=
    congrArg Port.state ((s.setPort_get d d _).trans (if_pos rfl))
  cases held : s.held[d] with
  | none =>
    rw [stallPort_of_none held]
    exact stalled
  | some r =>
    rw [stallPort_of_held held]
    exact stalled

theorem takeStall_ne (stalls : s.stallsNow d = true) : s.takeStall d ≠ s := by
  by_cases again : (s.takeOffer d).stallsNow d = true
  · have stalled : s.takeStall d = (s.takeOffer d).stallPort d := by simp only [takeStall, stalls, again, if_true]
    refine ne_of_apply_ne (fun t => t.ports[d].state) fun same => ?_
    rw [stalled, stallPort_state] at same
    exact absurd (same.trans (stallsNow_waiting stalls)) nofun
  · have offered : s.takeStall d = s.takeOffer d := by
      simp only [takeStall, stalls, again, if_true, Bool.false_eq_true, if_false]
    rw [offered]
    exact fun same => again (same.symm ▸ stalls)

/-! ### The own events together -/

/-- An outstanding own event changes the state. -/
theorem takeOwn_ne (own : changesState c = true) (sound : s.PortsSound) (out : s.outstanding c = true) :
    s.takeOwn c ≠ s := by
  cases c with
  | chordMessage | read | hymn | start | stop | gate | flush | clear => exact takeOwn_ne_of_nextHanded out
  | load => exact openLoad_ne out
  | lockLoss => exact takeLockLoss_ne out
  | receiveLockLoss d => exact takeReceiveLockLoss_ne out
  | silenceFall => exact takeSilenceFall_ne out
  | starvationEntry => exact takeStarvationEntry_ne out
  | listenExpiry r => exact takeListenExpiry_ne out
  | allOffEntry d => exact enterAllOff_ne out
  | stall d => exact takeStall_ne out
  | freezeEntry =>
    obtain ⟨r, enters⟩ := Option.isSome_iff_exists.mp out
    exact takeFreezeEntry_ne enters
  | arm =>
    obtain ⟨r, row⟩ := Option.isSome_iff_exists.mp out
    exact armReached_ne row
  | gateSoundExpiry =>
    obtain ⟨r, expired⟩ := Option.isSome_iff_exists.mp out
    exact takeGateSoundExpiry_ne expired
  | gateDropExpiry =>
    obtain ⟨r, expired⟩ := Option.isSome_iff_exists.mp out
    exact takeGateDropExpiry_ne expired
  | fermataExpiry =>
    obtain ⟨z, expired⟩ := Option.isSome_iff_exists.mp out
    exact takeFermataExpiry_ne expired
  | heldReleaseOffer d =>
    obtain ⟨r, offer⟩ := Option.isSome_iff_exists.mp out
    exact takeOffer_ne offer
  | release d =>
    obtain ⟨r, due⟩ := Option.isSome_iff_exists.mp out
    exact takeRelease_ne sound due
  | _ => cases own

end State

end Sys2Proof.Machine

/-! The end of a frame time (R1, R2, R44, log 2 to log 4): O5. -/

namespace Sys2Proof.Machine

-- One proof at a time, for the memory limit of the check.
set_option Elab.async false

/-! ### Signed differences of times (R2) -/

theorem Time.diff_bounds (a b : Time) : (16777216 : Int) ∣ Time.diff a b - ((a.toNat : Int) - (b.toNat : Int))
    ∧ -8388608 ≤ Time.diff a b ∧ Time.diff a b < 8388608 := by
  have ha := a.isLt
  have hb := b.isLt
  rw [Time.diff, BitVec.toInt_eq_toNat_cond, BitVec.toNat_sub]
  omega

/-! ### Own events by their commands (log 2, log 3) -/

namespace State

variable {s : State} {c : Instr} {d : Division}

/-- On a running device an own event's command takes the event. -/
theorem exec_of_changesState (own : changesState c = true) (running : s.Running) :
    exec c s = .next (s.takeOwn c) := by
  cases c with
  | powerReset | resetRelease | sync | data | chordHeader | commandHeader | fill | corruptedSync | lostOnset
  | damagedFrame | onset | credit | chestSync | deviceTimeAdvance | wordLeaving | beacon | responseComplete => cases own
  | _ => exact congrArg Host.Outcome.next (live_of_running running _)

theorem exec_of_outstanding (running : s.Running) (out : s.outstanding c = true) : exec c s = .next (s.takeOwn c) := by
  cases c with
  | powerReset | resetRelease | sync | data | chordHeader | commandHeader | fill | corruptedSync | lostOnset
  | damagedFrame | onset | credit | chestSync | deviceTimeAdvance => cases out
  | _ => exact congrArg Host.Outcome.next (live_of_running running _)

theorem outstanding_iff_exec_ne (own : changesState c = true) (running : s.Running) (sound : s.PortsSound) :
    s.outstanding c = true ↔ exec c s ≠ .next s := by
  rw [exec_of_changesState own running, ne_eq, Host.Outcome.next.injEq]
  constructor
  · exact takeOwn_ne own sound
  · exact fun changes => Bool.of_not_eq_false fun not => changes (takeOwn_of_not_outstanding own not)

/-! ### The end of a frame time (R1, log 3, log 4) -/

theorem exec_deviceTimeAdvance_of_running (running : s.Running) :
    exec .deviceTimeAdvance s = .next (settle 4096 s).fillSlots.advance :=
  congrArg Host.Outcome.next (if_neg (by rw [running]; exact Bool.false_ne_true))

theorem exec_deviceTimeAdvance_of_held (held : s.resetHeld = true) :
    exec .deviceTimeAdvance s = .next s.heldSlot :=
  congrArg Host.Outcome.next (if_pos held)

theorem fillSlots_settle_deviceTime (s : State) (n : Nat) : (settle n s).fillSlots.deviceTime = s.deviceTime :=
  (deviceTime_keptByOwn s.deviceTime).fillSlots ((deviceTime_keptByOwn s.deviceTime).settle n rfl)

theorem wordDue_iff : s.wordDue d = true ↔ s.ports[d].line.now = none ∧ s.deviceTime.toNat % 32 ≠ 0
    ∧ s.deviceTime.toNat % 32 ≠ 31 ∧ s.ports[d].transmission = none
    ∧ (s.ports[d].state = .active ∨ s.ports[d].state = .waiting) ∧ s.ports[d].queue ≠ [] ∧ 1 ≤ s.ports[d].credits := by
  simp only [wordDue, Bool.and_eq_true, Option.isNone_iff_eq_none, decide_eq_true_eq, Port.wordReady_iff, and_assoc]
  rfl

theorem beaconDue_iff : s.beaconDue = true ↔ s.returnLine.now = none ∧ s.deviceTime.toNat % 32 ≠ 0
    ∧ s.deviceTime.toNat % 32 ≠ 31 ∧ s.beaconHalf = none ∧ s.response = none := by
  simp only [beaconDue, Bool.and_eq_true, Option.isNone_iff_eq_none, decide_eq_true_eq, and_assoc]
  rfl

end State

/-- Settles O5: the end of a frame time running, in reset and with nothing outstanding; the settling of own events, and
what makes each outstanding. -/
theorem deviceTimeAdvances : Obligations.DeviceTimeAdvances := by
  refine ⟨fun s running => ⟨_, State.exec_deviceTimeAdvance_of_running running, ?time⟩,
    fun s held => ⟨_, State.exec_deviceTimeAdvance_of_held held, rfl, rfl, fun d => ofFn_get _ d⟩,
    fun s f g running quiet chosen returned => ?quiet,
    fun a b => ⟨(Time.diff_bounds a b).1, (Time.diff_bounds a b).2.1, (Time.diff_bounds a b).2.2, decide_eq_true_iff⟩,
    ⟨fun s running => State.exec_deviceTimeAdvance_of_running running, fun s => ⟨rfl, rfl⟩,
      fun s n none => settle_of_none none n, fun s u n c running next acts => ?settles, ?order⟩,
    fun s r d running sound c own => State.outstanding_iff_exec_ne ?_ running sound,
    fun s d => State.wordDue_iff, fun s => ⟨State.beaconDue_iff, State.lastFrameDue_iff⟩⟩
  case time => exact congrArg (· + 1) (s.fillSlots_settle_deviceTime 4096)
  case quiet =>
    rw [State.exec_deviceTimeAdvance_of_quiet running quiet,
      State.fillReturnSlot_of_chosen (Option.isSome_iff_exists.mpr ⟨g, returned⟩), Line.next_of_chosen returned]
    simp only [Port.fillSlot_nextSlot_of_chosen (chosen _)]
  case settles =>
    have out : s.outstanding c = true := List.find?_some next
    obtain rfl : s.takeOwn c = u := Host.Outcome.next.inj ((State.exec_of_outstanding running out).symm.trans acts)
    exact settle_of_some next n
  case order =>
    simp only [ownEvents, allDivisions, allRows, List.map_cons, List.map_nil, List.append_assoc, List.cons_append,
      List.nil_append]
  fin_cases own <;> rfl

end Sys2Proof.Machine
